-- ==== Sys2Proof/Word.lean ====
section
/-! DEFINITION. The two word sizes the manual's frames and record are made of (R173, R174). -/

namespace Sys2Proof

/-- One byte of a frame's data field or of the calibration record. -/
abbrev Byte := BitVec 8

/-- A two-byte field, high-order byte first on the bus and in the record (R173). -/
abbrev Half := BitVec 16

end Sys2Proof
end

