-- ==== Sys2Proof/Config.lean ====
section
/-! DEFINITION. The figures the manual fixes for the part (times in ms unless said), and the free values:
constants without a body, applied to the counter `State.free`, that stand for what the manual leaves open. -/

namespace Sys2Proof.Config

/-- LISTEN window (R11). -/
def listenMs : Nat := 600
/-- Beacon period (R26). -/
def beaconMs : Nat := 100
/-- DRAW NOTICE period (R29). -/
def drawMs : Nat := 100
/-- From WATCH entry to standby at the latest (R28). -/
def standbyMs : Nat := 200
/-- Off period of the controller (R22). -/
def offMs : Nat := 1000
/-- A beacon age above this is STALE (R37); a claim age above it does not count (R40); a hold or press
whose last arrival is older lapses (R47, R53). -/
def freshMs : Nat := 250
/-- A beacon age above this is LOST (R37). -/
def staleMs : Nat := 1000
/-- Ages stop growing here (chapter 3). -/
def ageMax : Nat := 65535
/-- Conflict quiet (R55). -/
def quietMs : Nat := 500
/-- Reversal dwell (R57). -/
def dwellMs : Nat := 300
/-- Retry pause (R81). -/
def retryMs : Nat := 500
/-- Duty step (R77). -/
def stepMs : Nat := 10
/-- Stall time (R79). -/
def stallMs : Nat := 250
/-- Coast window (R72). -/
def coastMs : Nat := 200
/-- Settle window of a claim (R90). -/
def settleMs : Nat := 200
/-- Low-supply time (R99). -/
def lowSupplyMs : Nat := 500
/-- Footing wait (R113). -/
def footingMs : Nat := 30000
/-- Missing limit (R116). -/
def missingMs : Nat := 1000
/-- Settle time of a level session (R119). -/
def settlingMs : Nat := 2000
/-- Trim dwell (R120). -/
def trimMs : Nat := 5000
/-- Reading intervals of the inclinometer check of a LISTEN (R12). -/
def tiltChecks : Nat := 4
/-- Re-lift limit (R119). -/
def reliftMax : Nat := 3
/-- Rack time (R131). -/
def rackMs : Nat := 1000
/-- Interlock grace (R136). -/
def graceMs : Nat := 2000
/-- Wind window (R139). -/
def windowMs : Nat := 1000
/-- Wind hold-off (R144). -/
def holdOffMs : Nat := 600000
/-- STOP pulse (R153). -/
def pulseMs : Nat := 200
/-- Duty below this is applied as 0 (R78). -/
def minDuty : Nat := 20
/-- Thermal cap of a HOT node (R100). -/
def hotCap : Nat := 25
/-- Notices the queue holds (R30). -/
def queueMax : Nat := 8
/-- Press list entries (R47). -/
def pressMax : Nat := 8
/-- The station value of a node whose straps give no station (R2). -/
def noStation : Nat := 127
/-- The part code and revision of the identity reply (R15). -/
def partCode : Nat := 430
def revision : Nat := 2

/-- FREE VALUE: whether the n-th byte whose programming was stopped is found written (R7). -/
opaque freeProgrammed : Nat → Bool

/-- FREE VALUE: a notice detail that the manual names no value for. -/
opaque freeDetail : Nat → Half

end Sys2Proof.Config
end

