-- ==== Sys2Proof/Syntax.lean ====
section
/-! DEFINITION. The commands of the MZ430: one constructor of `Instr` per row of spec/opcode_table.json,
with the operands a row needs (the fields of a frame, the channel or station an event concerns, the
input readings it samples), and the named codes of R173 that operands and state share. -/

namespace Sys2Proof

/-- A driven output of the node; B exists on a slide node only. -/
inductive ChanId where
  | a | b
  deriving DecidableEq, Repr

/-- The other ram of a slide. -/
def ChanId.other : ChanId → ChanId
  | .a => .b
  | .b => .a

/-- The role decoded from the ROLE strap (R2). -/
inductive Role where
  | jack | slide | awning | invalid
  deriving DecidableEq, Repr

/-- The node modes (chapter 1). -/
inductive Mode where
  | start | setup | listen | run | watch | lockout
  deriving DecidableEq, Repr

/-- The direction of an order. -/
inductive Dir where
  | extend | retract
  deriving DecidableEq, Repr

/-- The activities of a channel (R68). -/
inductive Activity where
  | idle | waiting | driving | paused | halted | faulted
  deriving DecidableEq, Repr

/-- The position classes (R73); `partway` is the manual's PARTIAL. -/
inductive PosClass where
  | unknown | stowed | partway | deployed
  deriving DecidableEq, Repr

/-- The level phases (chapter 7). -/
inductive Phase where
  | none | footing | lifting | snugging | settling | stable | trim
  deriving DecidableEq, Repr

/-- The wake causes a beacon can carry (R27). -/
inductive WakeCause where
  | none | powerOn | resetPin | tilt | wind | input | stopLine | bus | busRecovery
  deriving DecidableEq, Repr

/-- The fault kinds (R151, R173). -/
inductive FaultKind where
  | stall | rack | travelTime | overcurrent | supplyLow | sensor | peerLost
  | holdConflict | strokeLimit | tooSteep | duplicate | overheat | config
  deriving DecidableEq, Repr

/-- The orders a MOTION REQUEST names (R46). -/
inductive Order where
  | extend | retract | level | stow | halt | runPlan | clear | sleep
  deriving DecidableEq, Repr

/-- The refusal reasons (R173). -/
inductive Reason where
  | stopActive | road | inhibited | positionUnknown | interlock | peerMissing | windHoldoff
  | notPermitted | busy | duplicate | conditionPresent | alreadyWritten | crcMismatch
  deriving DecidableEq, Repr

/-- The event codes (R173). -/
inductive EventCode where
  | windRetract | hot | hotClear | planEnd | levelReached | roadRelease
  deriving DecidableEq, Repr

/-- An inhibit of the protection set (R159). -/
inductive Inhibit where
  | none | extend | both
  deriving DecidableEq, Repr

/-- A current-sense reading: draw units, or the sense standing at full scale (R12, R85). -/
inductive Current where
  | units (n : Nat)
  | fullScale
  deriving DecidableEq, Repr

/-- A home or out switch of a channel. -/
inductive EndSwitch where
  | home | out
  deriving DecidableEq, Repr

/-- Every input the node can sample, as the pins stand at one moment. A switch input is given as its pin
level (`true` is high); R74 makes of it open or closed by the polarity of the record. -/
structure Inputs where
  /-- ROLE1, ROLE0. -/
  roleStrap : BitVec 2
  /-- IDX2 to IDX0. -/
  idxStrap : BitVec 3
  /-- The CAL strap is high. -/
  cal : Bool
  homeA : Bool
  outA : Bool
  homeB : Bool
  outB : Bool
  /-- The foot switch is closed. -/
  foot : Bool
  isnsA : Current
  isnsB : Current
  /-- The supply sense V_s, in mV. -/
  vs : Nat
  /-- The driver temperature reading, in degrees Celsius. -/
  temp : Int
  /-- The PARK line reads asserted. -/
  parkAsserted : Bool
  /-- Some source other than this node pulls the STOP line low. -/
  stopPulled : Bool
  /-- The inclinometer's pitch and roll in cdeg, or no reading. -/
  tilt : Option (Int × Int)
  deriving DecidableEq, Repr

/-- The fields of a MOTION REQUEST other than its order, as they stand in the frame (R173). -/
structure MotionReq where
  source : Nat
  target : Byte
  /-- Byte 2: bit 0 mode (0 HELD, 1 LATCHED), bit 1 override flag. -/
  mode : Byte
  token : Byte
  argument : Byte
  deriving DecidableEq, Repr

/-- The eight data bytes of a POSTURE BEACON. -/
structure Data8 where
  b0 : Byte
  b1 : Byte
  b2 : Byte
  b3 : Byte
  b4 : Byte
  b5 : Byte
  b6 : Byte
  b7 : Byte
  deriving DecidableEq, Repr

/-- The data bytes of a DRAW NOTICE. -/
structure DrawReq where
  state : Byte
  claim : Byte
  baseClass : Byte
  yield : Byte
  deriving DecidableEq, Repr

/-- The data bytes of a PROTECT REQUEST. -/
structure ProtectReq where
  target : Byte
  inhibitA : Byte
  inhibitB : Byte
  lock : Byte
  deriving DecidableEq, Repr

/-- The data bytes of a CALIBRATION WRITE. -/
structure CalWrite where
  target : Byte
  offset : Byte
  d0 : Byte
  d1 : Byte
  d2 : Byte
  d3 : Byte
  tag : Byte
  deriving DecidableEq, Repr

/-- A frame as the controller receives it whole, before acceptance (R23). -/
structure RawFrame where
  ident : BitVec 11
  /-- A remote frame. -/
  remote : Bool
  dlc : BitVec 4
  data : List Byte
  deriving DecidableEq, Repr

/-- How an own transmission failed (R20). -/
inductive TxError where
  /-- A bit, form or stuffing error, or an error signalled by another station. -/
  | signalled
  /-- No acknowledgement. -/
  | noAck
  deriving DecidableEq, Repr

/-- The key of a press list entry (R47). -/
structure PressKey where
  panel : Nat
  order : Order
  token : Byte
  deriving DecidableEq, Repr

/-- The commands of the block. A frame row carries the frame's source station and data; an event row
carries what the event is about; a row that makes the node sample its inputs carries the inputs. -/
inductive Instr where
  | powerOn (inp : Inputs)
  | supplyBelowRange
  | nrstLow
  | nrstHigh (inp : Inputs)
  | calibrationWrite (source : Nat) (w : CalWrite) (cal : Bool)
  | calibrationProgrammingDone
  | calibrationLock (source : Nat) (target : Byte) (inp : Inputs)
  | identityQuery (source : Nat) (target : Byte)
  | restartRequest (source : Nat) (target : Byte) (inp : Inputs)
  | idleCurrentFail (ch : ChanId)
  | listenWindowEnd
  | postureBeacon (source : Nat) (d : Data8)
  | drawNotice (source : Nat) (r : DrawReq)
  | beaconAgeStale (station : Nat)
  | beaconAgeLost (station : Nat)
  | claimLapse (station : Nat)
  | stopCall (source : Nat) (reason : Byte) (sourceRole : Byte)
  | extend (r : MotionReq)
  | retract (r : MotionReq)
  | level (r : MotionReq)
  | stow (r : MotionReq)
  | halt (r : MotionReq)
  | clear (r : MotionReq) (isnsA : Current) (isnsB : Current)
  | sleep (r : MotionReq)
  | runPlan (r : MotionReq)
  | protectRequest (source : Nat) (r : ProtectReq)
  | frameNotTaken (f : RawFrame)
  | transmitStart
  | transmitComplete
  | arbitrationLost
  | transmitError (e : TxError)
  | receiveError
  | offPeriodEnd
  | busRejoin (inp : Inputs)
  | beaconDue
  | drawNoticeDue
  | standbyTimeout
  | pressEntryLapse (key : PressKey)
  | holdExpiry
  | conflictQuietEnd
  | reversalDwellEnd
  | stepTimeout
  | dutyStep
  | wallTimeLimit
  | encoderPulse (ch : ChanId)
  | coastWindowClose (ch : ChanId)
  | homeSwitchClose (ch : ChanId)
  | outSwitchClose (ch : ChanId)
  | switchOpen (sw : EndSwitch) (ch : ChanId)
  | footSwitchClose
  | footSwitchOpen
  | stall (ch : ChanId)
  | retryPauseEnd (ch : ChanId)
  | overcurrentTrip (ch : ChanId) (reading : Current)
  | settleWindowEnd
  | supplySenseReading (mv : Nat)
  | lowSupplyTimeout
  | temperatureReading (t : Int)
  | inclinometerReading (r : Option (Int × Int))
  | contactCurrent
  | footingWaitExpiry
  | missingTimerExpiry
  | settleTimeEnd
  | trimDwellComplete
  | rackTimerExpiry
  | graceExpiry
  | anemPulse
  | windWindowComplete
  | holdOffEnd
  | stopLineFall
  | stopLineRise
  | stopPulseEnd
  | roadRelease
  | parkAssert
  | idleTimeReached
  | poll (inp : Inputs)
  | wakeStopLine (inp : Inputs)
  | wakeBus (inp : Inputs)
  deriving DecidableEq, Repr

end Sys2Proof
end

