-- ==== Sys2Proof/Machine/State.lean ====
section
/-! DEFINITION. Everything the manual gives the node, as plain data: one structure per block of the part
(chapter 0's block diagram), the input pins as last sampled, the queue of waiting commands, and the reasons a
step can stop. Timers are `Option Nat`: `none` is stopped, `some t` is running with `t` ms elapsed. -/

namespace Sys2Proof.Machine

/-! ### The calibration record as read at START (R174) -/

/-- The channel block of the record. -/
structure ChanCal where
  pMax : Nat
  claim : Nat
  trip : Nat
  /-- Allowance in seconds. -/
  allowance : Nat
  /-- Retry limit code: 0, 1, 2, 3 for 1, 2, 4, 8. -/
  retryCode : Nat
  keepTrying : Bool
  latchedOk : Bool
  /-- Closed-to-supply wiring of the home input. -/
  homeToSupply : Bool
  outToSupply : Bool
  /-- Default inhibit code. -/
  inhibitCode : Nat
  deriving DecidableEq, Repr

/-- One step of a plan: an action code and a target mask. -/
structure StepCal where
  action : Nat
  mask : BitVec 16
  deriving DecidableEq, Repr

/-- One plan of the record; a plan with no steps is undefined (R62). -/
structure PlanCal where
  /-- Failure policy code: 0 ABORT_PLAN, 1 SKIP_STEP. -/
  policy : Nat
  /-- Step timeout in seconds. -/
  timeout : Nat
  steps : List StepCal
  deriving DecidableEq, Repr

/-- The fields of the record, with the defaults of the all-ones rule taken (R174). -/
structure Cal where
  jacks : BitVec 8
  slides : BitVec 8
  awnings : BitVec 8
  bTotal : Nat
  nPromote : Nat
  vDroop : Nat
  vFloor : Nat
  /-- Bit n is the fault kind of code n. -/
  stopMask : BitVec 16
  /-- Stop drive mode code: 0 LATCHED, 1 PULSED. -/
  driveCode : Nat
  idleMinutes : Nat
  pollCode : Nat
  wakeSwitches : Bool
  wakeTilt : Bool
  wakeWind : Bool
  autoStow : Bool
  windSource : Bool
  autoTrim : Bool
  footFitted : Bool
  wR : Nat
  tol : Nat
  deadband : Nat
  sMax : Nat
  contact : Nat
  syncBand : Nat
  rLim : Nat
  chA : ChanCal
  chB : ChanCal
  /-- Entry n: the place of jack n on the frame, or absent. -/
  jackTable : List (Option (Int × Int))
  plans : List PlanCal
  deriving DecidableEq, Repr

/-! ### Node, store, bus -/

/-- The lockout causes (R15). -/
inductive LockoutCause where
  | none | role | index | crc | field | overheat
  deriving DecidableEq, Repr

/-- Node-level state (chapter 1). -/
structure Node where
  mode : Mode
  role : Role
  /-- The decoded station, or 127 (R2). -/
  station : Nat
  startCause : WakeCause
  lockout : LockoutCause
  /-- The LISTEN window; stopped by bus-off (R21). -/
  listen : Option Nat
  /-- LISTEN runs on past its window for want of supply (R11). -/
  extended : Bool
  /-- The idle-current check has failed once in this LISTEN (R12). -/
  idleFailedA : Bool
  idleFailedB : Bool
  /-- The supply has come up since the previous START (R1). -/
  supplyUp : Bool
  nrstLow : Bool
  /-- VBAT stands below its operating range. -/
  vbatLow : Bool
  /-- The cause of the last wake, until RUN is entered (R172). -/
  wokeBy : WakeCause
  deriving DecidableEq, Repr

/-- The calibration store (R5): the written bytes, each with its value, addresses rising; an address that
is not listed is unwritten and reads FFh. -/
structure Store where
  cells : List Host.Cell
  locked : Bool
  /-- A write being programmed: its offset and its four bytes (R7). -/
  prog : Option (Nat × List Byte)
  /-- Frames that arrived during programming, oldest first (R7). -/
  held : List Instr
  deriving DecidableEq, Repr

/-- The controller's error state; `notJoined` in START and while held in reset (chapter 2). -/
inductive ErrState where
  | notJoined | active | passive | off
  deriving DecidableEq, Repr

/-- The channel a notice or a listed fault names. -/
inductive NChan where
  | node | a | b
  deriving DecidableEq, Repr

/-- The code of a notice; its constructor is the notice's class (R30). -/
inductive NoticeCode where
  | fault (k : FaultKind)
  | refusal (r : Reason)
  | event (e : EventCode)
  deriving DecidableEq, Repr

/-- A NOTICE in the queue (R30). -/
structure Notice where
  code : NoticeCode
  chan : NChan
  requester : Nat
  order : Option Order
  detail : Half
  deriving DecidableEq, Repr

/-- The beacon slot (R25, R28): a pending beacon is composed at each attempt, a retiring one is fixed. -/
inductive BeaconSlot where
  | empty
  | pending
  | retiring (data : List Byte)
  deriving DecidableEq, Repr

/-- The draw notice slot (R29); a RELEASE keeps the last claimed values. -/
inductive DrawSlot where
  | empty
  | claim
  | release (amount baseClass yield : Nat)
  deriving DecidableEq, Repr

/-- The own frame being sent (R19). -/
structure Tx where
  kind : Nat
  ident : Nat
  data : List Byte
  /-- The slot still holds this very frame. -/
  live : Bool
  deriving DecidableEq, Repr

/-- The bus port: controller and transmit scheduler (chapter 2). -/
structure Bus where
  err : ErrState
  txErrors : Nat
  rxErrors : Nat
  offTimer : Option Nat
  /-- The off period has passed and the controller waits for bus idle (R22). -/
  awaitIdle : Bool
  /-- The transceiver is in standby (R28). -/
  standby : Bool
  standbyTimer : Option Nat
  beaconTimer : Option Nat
  beaconSlot : BeaconSlot
  drawSlot : DrawSlot
  drawTimer : Option Nat
  notices : List Notice
  stopCall : Option (FaultKind × Role)
  wakeCall : Option WakeCause
  identity : Option (List Byte)
  tx : Option Tx
  /-- The wake cause the beacons carry until one has completed (R27). -/
  wakeCause : WakeCause
  deriving DecidableEq, Repr

/-! ### The peer table -/

/-- The role part of a beacon (R27). -/
inductive BeaconBody where
  | jack (phase : Phase) (bestEffort offLevel limit contact : Bool) (act : Activity) (cls : PosClass)
      (pitch roll : Int) (stroke : Nat)
  | slide (actA actB : Activity) (cls : PosClass) (posA posB : Nat) (rack : Int)
  | awning (act : Activity) (cls : PosClass) (pos : Nat) (wind : Nat) (holdOff source : Bool)
  deriving DecidableEq, Repr

/-- The contents of a POSTURE BEACON (R27). -/
structure Beacon where
  ready : Bool
  retiring : Bool
  roadAlarm : Bool
  wake : WakeCause
  fault : Option FaultKind
  body : BeaconBody
  deriving DecidableEq, Repr

/-- The standing of a peer entry (R37, R38). -/
inductive Freshness where
  | fresh | stale | lost | asleep
  deriving DecidableEq, Repr

/-- A peer's claim record (R39). -/
structure ClaimRec where
  amount : Nat
  baseClass : Nat
  yield : Nat
  age : Nat
  deriving DecidableEq, Repr

/-- One entry of the peer table (chapter 3). -/
structure Peer where
  station : Nat
  beacon : Beacon
  act : Activity
  prev : Option Activity
  age : Nat
  fresh : Freshness
  claim : Option ClaimRec
  deriving DecidableEq, Repr

/-! ### The order unit -/

/-- Where an order comes from. -/
inductive Origin where
  | held | latched | plan | auto
  deriving DecidableEq, Repr

/-- What the order the node carries is for. `trim` is the level unit's own LEVEL (R121). -/
inductive Task where
  | extend | retract | level | stow | trim | windRetract | roadStow
  deriving DecidableEq, Repr

/-- The order the node carries, as the order unit knows it; for LEVEL and trim this is the session
order of chapter 7, present between legs too. -/
structure CurOrder where
  task : Task
  origin : Origin
  /-- The requester: a panel, the plan's panel, or 0. -/
  panel : Nat
  press : Option PressKey
  /-- A HELD RETRACT with the override flag (R58). -/
  override : Bool
  deriving DecidableEq, Repr

/-- A press list entry (R47); the list is kept oldest last arrival first. -/
structure Press where
  key : PressKey
  held : Bool
  running : Bool
  age : Nat
  deriving DecidableEq, Repr

/-- The hold record (chapter 4). -/
structure Hold where
  panel : Nat
  order : Order
  token : Byte
  age : Nat
  deriving DecidableEq, Repr

/-- The node's own part of a plan step (R63). -/
inductive Part where
  | notMine | done | running | pending | failed
  deriving DecidableEq, Repr

/-- The plan cursor (R62). -/
structure Cursor where
  plan : Nat
  step : Nat
  /-- Time since the step's start. -/
  age : Nat
  part : Part
  panel : Nat
  token : Byte
  /-- The outcome so far is SKIPPED. -/
  skipped : Bool
  deriving DecidableEq, Repr

/-- The order unit (chapter 4). -/
structure Orders where
  presses : List Press
  hold : Option Hold
  /-- Conflict quiet, with the time since the last HELD request (R55). -/
  quiet : Option Nat
  cursor : Option Cursor
  cur : Option CurOrder
  idle : Nat
  /-- The idle time has been reached and the WATCH entry test is repeated (R166). -/
  idleReached : Bool
  /-- The plan steps, as plan and step, whose barred action has been noticed once already (R63). -/
  barred : List (Nat × Nat)
  deriving DecidableEq, Repr

/-! ### Channels -/

/-- Why a channel is PAUSED. -/
inductive PauseKind where
  | retry | reversal
  deriving DecidableEq, Repr

/-- The order a channel engine carries. -/
structure ChanOrder where
  origin : Origin
  dir : Dir
  /-- Time since the order's start. -/
  age : Nat
  deriving DecidableEq, Repr

/-- The channel record, with what the engine keeps beside it (chapter 5). -/
structure Channel where
  act : Activity
  pause : Option (PauseKind × Nat)
  cls : PosClass
  count : Nat
  order : Option ChanOrder
  /-- Travel accumulator (R83). -/
  acc : Nat
  /-- Wall time in ms (R84). -/
  wall : Nat
  retries : Nat
  stallNoticed : Bool
  fault : Option (FaultKind × Half)
  coast : Option (Dir × Nat)
  roleWait : Bool
  /-- Applied duty. -/
  applied : Nat
  stall : Option Nat
  /-- The DRVx_DIR output. -/
  drvDir : Dir
  /-- Switch levels as last taken (R74). -/
  homeClosed : Bool
  outClosed : Bool
  deriving DecidableEq, Repr

/-- The duty step in progress: the duty the accumulator takes for it, and the ms since its start (R83). -/
structure DutyStep where
  duty : Nat
  age : Nat
  deriving DecidableEq, Repr

/-! ### Supply share, role logic -/

/-- How far the claim is from its first admission decision (R90). -/
inductive Standing where
  | unsent | settling | decided
  deriving DecidableEq, Repr

/-- The own claim (R88). -/
structure Claim where
  amount : Nat
  baseClass : Nat
  standing : Standing
  settle : Nat
  deriving DecidableEq, Repr

/-- The supply share unit (chapter 6). Yield count and thermal cap are computed from these. -/
structure Supply where
  claim : Option Claim
  passes : Nat
  cap : Nat
  droop : Nat
  /-- The low-supply timer and the lowest reading in it (R99). -/
  low : Option (Nat × Nat)
  hot : Bool
  deriving DecidableEq, Repr

/-- The kinds of leg (R110). -/
inductive LegKind where
  | foot | lift | snug | trim
  deriving DecidableEq, Repr

/-- The level unit (chapter 7). -/
structure Level where
  phase : Phase
  leg : Option LegKind
  /-- The role request of the running leg. -/
  request : Nat
  bestEffort : Bool
  limit : Bool
  offLevel : Bool
  /-- The foot state is CONTACT. -/
  contact : Bool
  /-- The foot switch reads closed. -/
  footClosed : Bool
  /-- The last readings, oldest first, at most four. -/
  window : List (Int × Int)
  pitch : Int
  roll : Int
  p : Int
  q : Int
  /-- Consecutive intervals with an unclamped reading, up to four (R105). -/
  goodRun : Nat
  /-- The reading intervals that the check of this LISTEN still takes in, from four down (R12, R105). -/
  checkLeft : Nat
  footing : Option Nat
  missing : Option Nat
  settle : Option Nat
  dwell : Option Nat
  relift : Nat
  deriving DecidableEq, Repr

/-- The square unit (chapter 8). Rack error, leading ram and requests are computed from the counts. -/
structure Square where
  rack : Option Nat
  /-- The interlock standing is LOST. -/
  lost : Bool
  grace : Option Nat
  deriving DecidableEq, Repr

/-- The wind unit (chapter 9). -/
structure Wind where
  window : Option Nat
  pulses : Nat
  own : Nat
  highRun : Nat
  spent : Bool
  holdOff : Option Nat
  /-- The own wind of the window that completed the run of three (R142). -/
  runWind : Nat
  deriving DecidableEq, Repr

/-! ### Stop and fault unit, road unit, watch unit -/

/-- The own drive of the STOP line (chapter 10). -/
inductive Drive where
  | none | latched | pulsing
  deriving DecidableEq, Repr

/-- An active fault (R151). -/
structure ActiveFault where
  kind : FaultKind
  chan : NChan
  detail : Half
  deriving DecidableEq, Repr

/-- The stop and fault unit (chapter 10). -/
structure StopUnit where
  drive : Drive
  first : Option ActiveFault
  pulse : Option Nat
  sensedLow : Bool
  /-- Oldest first. -/
  faults : List ActiveFault
  deriving DecidableEq, Repr

/-- The stow standing (chapter 11). -/
inductive Stow where
  | none | heldBack | running | pending | ended
  deriving DecidableEq, Repr

/-- The road unit (chapter 11). -/
structure Road where
  /-- `none` until taken; `some true` is ASSERTED. -/
  park : Option Bool
  inhibitA : Inhibit
  inhibitB : Inhibit
  lock : Bool
  alarm : Bool
  stow : Stow
  /-- Step 5 of a road release waits for the next entry to RUN (R160). -/
  stowDue : Bool
  deriving DecidableEq, Repr

/-- A switch the watch unit can hold in its snapshot. -/
inductive SnapSwitch where
  | home (ch : ChanId)
  | out (ch : ChanId)
  | foot
  deriving DecidableEq, Repr

/-- What a snapshot entry holds (R167). -/
inductive SnapKind where
  | switch (sw : SnapSwitch) (closed : Bool)
  | tilt (pitch roll : Int)
  | wind (threshold : Nat)
  deriving DecidableEq, Repr

/-- A snapshot entry with its polled mark. -/
structure SnapEntry where
  kind : SnapKind
  polled : Bool
  deriving DecidableEq, Repr

/-- The watch unit (chapter 12). -/
structure Watch where
  snap : List SnapEntry
  firstPoll : Bool
  poll : Option Nat
  lowPause : Bool
  tally : Nat
  deriving DecidableEq, Repr

/-! ### The whole machine -/

/-- The state of the node, and the queue of the commands that wait for it. -/
structure State where
  node : Node
  store : Store
  cal : Cal
  /-- The input pins as last sampled. -/
  inp : Inputs
  bus : Bus
  /-- Stations strictly rising. -/
  peers : List Peer
  orders : Orders
  chA : Channel
  chB : Channel
  step : Option DutyStep
  supply : Supply
  level : Level
  square : Square
  wind : Wind
  stop : StopUnit
  road : Road
  watch : Watch
  /-- The model's own counter of free values drawn. -/
  free : Nat
  /-- The commands that wait, first in, first out. -/
  pending : List Instr
  deriving DecidableEq, Repr

/-- Nothing in the manual stops the node with a fault: what it reports, it reports in notices and state.
So there is no fault to raise (safe: no meaning ends in one). -/
inductive Fault where
  deriving DecidableEq, Repr

/-- Why a command has no next state. -/
inductive Refusal where
  /-- Raised by `exec` alone, for a row without a meaning; safe, since nothing can then be claimed of it.
  No row is left without one. -/
  | notModelled (mnemonic : String)
  deriving DecidableEq, Repr

/-! ### Updates, one per block -/

namespace State

def onNode (f : Node → Node) (s : State) : State := { s with node := f s.node }
def onStore (f : Store → Store) (s : State) : State := { s with store := f s.store }
def setCal (c : Cal) (s : State) : State := { s with cal := c }
def onInp (f : Inputs → Inputs) (s : State) : State := { s with inp := f s.inp }
def onBus (f : Bus → Bus) (s : State) : State := { s with bus := f s.bus }
def onPeers (f : List Peer → List Peer) (s : State) : State := { s with peers := f s.peers }
def onOrders (f : Orders → Orders) (s : State) : State := { s with orders := f s.orders }
def onChA (f : Channel → Channel) (s : State) : State := { s with chA := f s.chA }
def onChB (f : Channel → Channel) (s : State) : State := { s with chB := f s.chB }
def setStep (d : Option DutyStep) (s : State) : State := { s with step := d }
def onSupply (f : Supply → Supply) (s : State) : State := { s with supply := f s.supply }
def onLevel (f : Level → Level) (s : State) : State := { s with level := f s.level }
def onSquare (f : Square → Square) (s : State) : State := { s with square := f s.square }
def onWind (f : Wind → Wind) (s : State) : State := { s with wind := f s.wind }
def onStop (f : StopUnit → StopUnit) (s : State) : State := { s with stop := f s.stop }
def onRoad (f : Road → Road) (s : State) : State := { s with road := f s.road }
def onWatch (f : Watch → Watch) (s : State) : State := { s with watch := f s.watch }
def setFree (n : Nat) (s : State) : State := { s with free := n }
def setPending (q : List Instr) (s : State) : State := { s with pending := q }

/-- A channel record by name. -/
def chan (s : State) : ChanId → Channel
  | .a => s.chA
  | .b => s.chB

/-- Update a channel record by name. -/
def onChan (ch : ChanId) (f : Channel → Channel) (s : State) : State :=
  match ch with
  | .a => s.onChA f
  | .b => s.onChB f

end State

/-! ### Reset -/

/-- A channel block before a record has been read. -/
def ChanCal.blank : ChanCal :=
  { pMax := 0, claim := 0, trip := 0, allowance := 0, retryCode := 0, keepTrying := false, latchedOk := false,
    homeToSupply := false, outToSupply := false, inhibitCode := 0 }

/-- The record fields before a START has read them (DESIGN CHOICE, log 3). -/
def Cal.blank : Cal :=
  { jacks := 0, slides := 0, awnings := 0, bTotal := 0, nPromote := 0, vDroop := 0, vFloor := 0, stopMask := 0,
    driveCode := 0, idleMinutes := 0, pollCode := 0, wakeSwitches := false, wakeTilt := false, wakeWind := false,
    autoStow := false, windSource := false, autoTrim := false, footFitted := false, wR := 0, tol := 0,
    deadband := 0, sMax := 0, contact := 0, syncBand := 0, rLim := 0, chA := .blank, chB := .blank,
    jackTable := [], plans := [] }

/-- The pins before anything has sampled them (DESIGN CHOICE, log 2). -/
def blankInputs : Inputs :=
  { roleStrap := 0, idxStrap := 0, cal := false, homeA := false, outA := false, homeB := false, outB := false,
    foot := false, isnsA := .units 0, isnsB := .units 0, vs := 0, temp := 0, parkAsserted := false,
    stopPulled := false, tilt := none }

/-- The bus port after power-on or NRST (chapter 2's table). -/
def Bus.fresh : Bus :=
  { err := .notJoined, txErrors := 0, rxErrors := 0, offTimer := none, awaitIdle := false, standby := false,
    standbyTimer := none, beaconTimer := none, beaconSlot := .empty, drawSlot := .empty, drawTimer := none,
    notices := [], stopCall := none, wakeCall := none, identity := none, tx := none, wakeCause := .none }

/-- The order unit after power-on or NRST (R67). -/
def Orders.fresh : Orders :=
  { presses := [], hold := none, quiet := none, cursor := none, cur := none, idle := 0, idleReached := false,
    barred := [] }

/-- A channel after power-on or NRST, before its home switch is read (R87). -/
def Channel.fresh : Channel :=
  { act := .idle, pause := none, cls := .unknown, count := 0, order := none, acc := 0, wall := 0, retries := 0,
    stallNoticed := false, fault := none, coast := none, roleWait := false, applied := 0, stall := none,
    drvDir := .extend, homeClosed := false, outClosed := false }

/-- The supply share unit after power-on or NRST (R103). -/
def Supply.fresh : Supply :=
  { claim := none, passes := 0, cap := 0, droop := 0, low := none, hot := false }

/-- The level unit after power-on or NRST (R124). -/
def Level.fresh : Level :=
  { phase := .none, leg := none, request := 0, bestEffort := false, limit := false, offLevel := false,
    contact := false, footClosed := false, window := [], pitch := 0, roll := 0, p := 0, q := 0, goodRun := 0,
    checkLeft := 0,
    footing := none, missing := none, settle := none, dwell := none, relift := 0 }

/-- The square unit after power-on or NRST (R138). -/
def Square.fresh : Square := { rack := none, lost := false, grace := none }

/-- The wind unit after power-on or NRST (R146). -/
def Wind.fresh : Wind :=
  { window := none, pulses := 0, own := 255, highRun := 0, spent := false, holdOff := none, runWind := 255 }

/-- The stop and fault unit after power-on or NRST (R156). Until the entry to LISTEN takes it, the sensed level is HIGH
(DESIGN CHOICE, log 10). -/
def StopUnit.fresh : StopUnit :=
  { drive := .none, first := none, pulse := none, sensedLow := false, faults := [] }

/-- The road unit after power-on or NRST, before the record's default inhibits are taken (R158, R165). Until a record gives
them the inhibits are NONE (DESIGN CHOICE, log 10). -/
def Road.fresh : Road :=
  { park := none, inhibitA := .none, inhibitB := .none, lock := false, alarm := false, stow := .none,
    stowDue := false }

/-- The watch unit after power-on or NRST (R172). -/
def Watch.fresh : Watch := { snap := [], firstPoll := false, poll := none, lowPause := false, tally := 0 }

/-- The machine right after reset: every block at its power-on value, the record blank, the node held in
START with VBAT not yet in its range, so that POWER_ON is what starts it. Before the first START no cause is recorded and
NRST is high (DESIGN CHOICE, log 1). -/
def State.reset : State :=
  { node :=
      { mode := .start, role := .jack, station := Config.noStation, startCause := .none, lockout := .none,
        listen := none, extended := false, idleFailedA := false, idleFailedB := false, supplyUp := false,
        nrstLow := false, vbatLow := true, wokeBy := .none }
    store := { cells := [], locked := false, prog := none, held := [] }
    cal := .blank
    inp := blankInputs
    bus := .fresh
    peers := []
    orders := .fresh
    chA := .fresh
    chB := .fresh
    step := none
    supply := .fresh
    level := .fresh
    square := .fresh
    wind := .fresh
    stop := .fresh
    road := .fresh
    watch := .fresh
    free := 0
    pending := [] }

end Sys2Proof.Machine
end

