-- ==== Sys2Proof/Machine/Record.lean ====
section
/-! DEFINITION. The calibration record: reading and programming the store (R5, R7), its CRC (R8), its
fields with their defaults (R174) and the validity check (R4). -/

namespace Sys2Proof.Machine

/-! ### The store -/

/-- What a byte that nothing has written reads as (R5). -/
def unwrittenByte : Byte := 0xFF#8

/-- Look an address up in a list of cells. -/
def cellsFind (cells : List Host.Cell) (a : Nat) : Option Byte :=
  match cells with
  | [] => none
  | (k, v) :: rest => if k = a then some v else cellsFind rest a

/-- Write one cell, keeping the addresses rising. -/
def cellsPut (cells : List Host.Cell) (a : Nat) (v : Byte) : List Host.Cell :=
  match cells with
  | [] => [(a, v)]
  | (k, w) :: rest =>
    if a < k then (a, v) :: (k, w) :: rest
    else if a = k then (a, v) :: rest
    else (k, w) :: cellsPut rest a v

/-- The addresses of the cells rise strictly from `lo` on and lie below 256. -/
def cellsWf (lo : Nat) (cells : List Host.Cell) : Bool :=
  match cells with
  | [] => true
  | (k, _) :: rest => lo ≤ k && k < 256 && cellsWf (k + 1) rest

/-- The canonical form of the store: written bytes only, each once, rising, numbered 0 to 255. Two stores
with the same marks and values are the same data. -/
def Store.wf (st : Store) : Bool := cellsWf 0 st.cells

/-- The written mark of a byte (R5). -/
def Store.written (st : Store) (a : Nat) : Bool := (cellsFind st.cells a).isSome

/-- A byte as read: its value, or FFh while unwritten (R5). -/
def Store.read (st : Store) (a : Nat) : Byte := (cellsFind st.cells a).getD unwrittenByte

/-- Program a run of bytes from `a` on, in order (R6). Bytes past 255 do not exist. -/
def Store.program (st : Store) (a : Nat) : List Byte → Store
  | [] => st
  | b :: rest =>
    if a < 256 then
      Store.program { st with cells := cellsPut st.cells a b } (a + 1) rest
    else st

/-- The record states (R5). -/
inductive RecordState where
  | blank | opened | locked
  deriving DecidableEq, Repr

/-- The record state follows from the marks and the lock (R5). -/
def Store.state (st : Store) : RecordState :=
  if st.locked then .locked else if st.cells.isEmpty then .blank else .opened

/-- The number of unwritten bytes of the 256 (R9). -/
def Store.unwritten (st : Store) : Nat := 256 - st.cells.length

/-! ### The CRC (R8) -/

/-- One bit into the CRC register, most significant end first, polynomial x^16 + x^12 + x^5 + 1. -/
def crcBit (c : Half) (bit : Bool) : Half :=
  if c.getMsbD 0 != bit then (c <<< 1) ^^^ 0x1021#16 else c <<< 1

/-- One byte into the CRC register, most significant bit first. -/
def crcByte (c : Half) (b : Byte) : Half :=
  [0, 1, 2, 3, 4, 5, 6, 7].foldl (fun c i => crcBit c (b.getMsbD i)) c

/-- The CRC of a run of bytes: initial value FFFFh, no final inversion. -/
def crc (bytes : List Byte) : Half := bytes.foldl crcByte 0xFFFF#16

/-- The bytes from `a` on, `n` of them, as read. -/
def Store.readRun (st : Store) (a : Nat) : Nat → List Byte
  | 0 => []
  | n + 1 => st.read a :: st.readRun (a + 1) n

/-- The CRC computed over bytes 0 to 253 (R8). -/
def Store.crc (st : Store) : Half := Machine.crc (st.readRun 0 254)

/-- The stored CRC: byte 254 high, byte 255 low (R8). -/
def Store.storedCrc (st : Store) : Half := st.read 254 ++ st.read 255

/-- The computed CRC matches the stored one (R3, R9). -/
def Store.crcOk (st : Store) : Bool := st.crc == st.storedCrc

/-! ### The fields of the record (R174) -/

/-- A one-byte field as a number. -/
def Store.u8 (st : Store) (a : Nat) : Nat := (st.read a).toNat

/-- A two-byte field as a number, high-order byte first (R173). -/
def Store.u16 (st : Store) (a : Nat) : Nat := (st.read a).toNat * 256 + (st.read (a + 1)).toNat

/-- A two-byte field read as two's complement (R173). -/
def Store.s16 (st : Store) (a : Nat) : Int := (st.read a ++ st.read (a + 1) : BitVec 16).toInt

/-- The all-ones rule for a one-byte field with a default. -/
def Store.u8d (st : Store) (a dflt : Nat) : Nat := if st.u8 a = 0xFF then dflt else st.u8 a

/-- The all-ones rule for a two-byte field with a default. -/
def Store.u16d (st : Store) (a dflt : Nat) : Nat := if st.u16 a = 0xFFFF then dflt else st.u16 a

/-- Bit `n` of a byte of the record. -/
def Store.bit (st : Store) (a n : Nat) : Bool := (st.read a).getLsbD n

/-- The default stop mask: OVERCURRENT, RACK, OVERHEAT (R152). -/
def defaultStopMask : Nat := 2 ^ 4 + 2 ^ 2 + 2 ^ 12

/-- A channel block at its first byte (R174). -/
def readChanCal (st : Store) (a : Nat) : ChanCal :=
  { pMax := st.u16 a
    claim := st.u8 (a + 2)
    trip := st.u8 (a + 3)
    allowance := st.u8 (a + 4)
    retryCode := st.u8 (a + 5)
    keepTrying := st.bit (a + 6) 0
    latchedOk := st.bit (a + 6) 1
    homeToSupply := st.bit (a + 6) 2
    outToSupply := st.bit (a + 6) 3
    inhibitCode := (st.u8 (a + 6) / 16) % 4 }

/-- Jack table entry `n`: absent when x and y both read FFFFh (R174). -/
def readJackEntry (st : Store) (n : Nat) : Option (Int × Int) :=
  let a := 64 + 4 * n
  if st.u16 a = 0xFFFF ∧ st.u16 (a + 2) = 0xFFFF then none else some (st.s16 a, st.s16 (a + 2))

/-- `n` steps of a plan from its byte `a` on. -/
def readSteps (st : Store) (a : Nat) : Nat → List StepCal
  | 0 => []
  | n + 1 => { action := st.u8 a, mask := BitVec.ofNat 16 (st.u16 (a + 1)) } :: readSteps st (a + 3) n

/-- The step count byte of plan `p`. -/
def planCount (st : Store) (p : Nat) : Nat := st.u8 (88 + 28 * p)

/-- Plan `p`; a step count of 0 or FFh leaves it undefined, with no steps (R62, R174). A count above 8
never passes the validity check, and no more than 8 steps are read. -/
def readPlan (st : Store) (p : Nat) : PlanCal :=
  let a := 88 + 28 * p
  { policy := st.u8 (a + 1)
    timeout := st.u16d (a + 2) 120
    steps := if planCount st p = 0xFF then [] else readSteps st (a + 4) (min (planCount st p) 8) }

/-- The record's fields (R174). -/
def readCal (st : Store) : Cal :=
  { jacks := st.read 0
    slides := st.read 1
    awnings := st.read 2
    bTotal := st.u16d 3 240
    nPromote := st.u8d 5 2
    vDroop := st.u16d 6 11400
    vFloor := st.u16d 8 10500
    stopMask := BitVec.ofNat 16 (st.u16d 10 defaultStopMask)
    driveCode := st.u8 12
    idleMinutes := st.u8d 13 10
    pollCode := st.u8 14
    wakeSwitches := st.bit 15 0
    wakeTilt := st.bit 15 1
    wakeWind := st.bit 15 2
    autoStow := st.bit 16 0
    windSource := st.bit 16 1
    autoTrim := st.bit 16 2
    footFitted := st.bit 16 3
    wR := st.u8 17
    tol := st.u8d 18 20
    deadband := st.u8d 19 3
    sMax := st.u16d 20 400
    contact := st.u8 22
    syncBand := st.u8d 23 6
    rLim := st.u8d 24 40
    chA := readChanCal st 32
    chB := readChanCal st 48
    jackTable := [0, 1, 2, 3, 4, 5].map (readJackEntry st)
    plans := [0, 1, 2, 3].map (readPlan st) }

/-! ### What the fields mean -/

/-- A station's place in the presence mask and in a plan's target mask: its bit of the 16-bit form. -/
def maskBit (station : Nat) : Option Nat :=
  if station ≤ 5 then some station
  else if 8 ≤ station ∧ station ≤ 13 then some (station - 2)
  else if 16 ≤ station ∧ station ≤ 17 then some (station - 4)
  else none

/-- The station is in a plan step's target mask (R174). -/
def inMask (m : BitVec 16) (station : Nat) : Bool :=
  match maskBit station with
  | some b => m.getLsbD b
  | none => false

/-- The station is expected: marked in the presence mask (R41). -/
def Cal.expects (c : Cal) (station : Nat) : Bool :=
  if station ≤ 5 then c.jacks.getLsbD station
  else if 8 ≤ station ∧ station ≤ 13 then c.slides.getLsbD (station - 8)
  else if 16 ≤ station ∧ station ≤ 17 then c.awnings.getLsbD (station - 16)
  else false

/-- The expected jacks, slides and awnings, by station (R41). -/
def Cal.expJacks (c : Cal) : List Nat := [0, 1, 2, 3, 4, 5].filter c.expects
def Cal.expSlides (c : Cal) : List Nat := [8, 9, 10, 11, 12, 13].filter c.expects
def Cal.expAwnings (c : Cal) : List Nat := [16, 17].filter c.expects

/-- The channel block of a channel. -/
def Cal.chan (c : Cal) : ChanId → ChanCal
  | .a => c.chA
  | .b => c.chB

/-- The retry limit: 1, 2, 4 or 8 (R82). -/
def ChanCal.retryLimit (c : ChanCal) : Nat := 2 ^ (min c.retryCode 3)

/-- The default inhibit (R158). -/
def ChanCal.inhibit (c : ChanCal) : Inhibit :=
  if c.inhibitCode = 1 then .extend else if c.inhibitCode = 2 then .both else .none

/-- The poll period in ms: 0.5, 1, 2 or 4 s (R174). -/
def Cal.pollMs (c : Cal) : Nat := 500 * 2 ^ (min c.pollCode 3)

/-- The idle time in ms. -/
def Cal.idleMs (c : Cal) : Nat := c.idleMinutes * 60000

/-! ### The validity check (R4) -/

/-- `lo ≤ n ≤ hi`. -/
def inRange (n lo hi : Nat) : Bool := lo ≤ n && n ≤ hi

/-- A field without a default is out of range when it reads all ones (R174). -/
def notOnes8 (st : Store) (a : Nat) : Bool := st.u8 a != 0xFF
def notOnes16 (st : Store) (a : Nat) : Bool := st.u16 a != 0xFFFF

/-- The fields every node reads; the CRC is one of them, and has no default (R174). -/
def commonOk (st : Store) (c : Cal) : Bool :=
  notOnes8 st 0 && notOnes8 st 1 && notOnes8 st 2
    && inRange c.bTotal 40 500 && inRange c.nPromote 1 3
    && inRange c.vDroop 10000 13000 && inRange c.vFloor 9000 12000 && decide (c.vFloor < c.vDroop)
    && inRange c.driveCode 0 1 && inRange c.idleMinutes 1 60 && inRange c.pollCode 0 3 && notOnes16 st 254

/-- A channel block, its claim between 1 and `claimMax`. -/
def chanOk (st : Store) (a : Nat) (c : ChanCal) (claimMax : Nat) : Bool :=
  inRange c.pMax 1 4000 && inRange c.claim 1 claimMax && notOnes8 st (a + 2) && notOnes8 st (a + 3)
    && inRange c.allowance 5 120 && inRange c.retryCode 0 3 && notOnes8 st (a + 6) && inRange c.inhibitCode 0 2

/-- A jack table entry: present exactly where the jack is expected, and in range (R4). One coordinate alone that reads FFFFh
fails the entry (DESIGN CHOICE, log 53). -/
def jackEntryOk (st : Store) (c : Cal) (n : Nat) : Bool :=
  match readJackEntry st n with
  | none => !c.expects n
  | some (x, y) =>
    c.expects n && notOnes16 st (64 + 4 * n) && notOnes16 st (66 + 4 * n)
      && decide (-8000 ≤ x ∧ x ≤ 8000 ∧ -1500 ≤ y ∧ y ≤ 1500)

/-- A plan step: a defined action, and a mask that names only expected stations (R4). -/
def stepOk (c : Cal) (s : StepCal) : Bool :=
  inRange s.action 1 4 && s.mask != 0xFFFF#16
    && [0, 1, 2, 3, 4, 5, 8, 9, 10, 11, 12, 13, 16, 17].all fun st => !inMask s.mask st || c.expects st

/-- A plan: undefined, or with every field it has in range (R62, R174). -/
def planOk (st : Store) (c : Cal) (p : Nat) : Bool :=
  let plan := readPlan st p
  planCount st p == 0 || planCount st p == 0xFF
    || (inRange (planCount st p) 1 8 && inRange plan.policy 0 1 && inRange plan.timeout 10 600
          && plan.steps.all (stepOk c))

/-- The fields one role reads (R174). -/
def roleOk (st : Store) (c : Cal) (role : Role) : Bool :=
  match role with
  | .jack =>
    chanOk st 32 c.chA (min c.bTotal 255)
      && inRange c.tol 5 50 && inRange c.deadband 1 10 && inRange c.sMax 100 1000
      && notOnes8 st 22 && decide (1 ≤ c.contact ∧ c.contact + 1 ≤ c.chA.trip)
  | .slide =>
    chanOk st 32 c.chA 127 && chanOk st 48 c.chB 127 && decide (c.chA.claim + c.chB.claim ≤ c.bTotal)
      && inRange c.syncBand 2 30 && inRange c.rLim 10 200 && decide (c.syncBand < c.rLim)
  | .awning => chanOk st 32 c.chA (min c.bTotal 255) && notOnes8 st 17
  | .invalid => false

/-- The validity check of R4 for a node of this role and station. -/
def recordValid (st : Store) (role : Role) (station : Nat) : Bool :=
  let c := readCal st
  commonOk st c && roleOk st c role && c.expects station
    && [0, 1, 2, 3, 4, 5].all (jackEntryOk st c) && [0, 1, 2, 3].all (planOk st c)

end Sys2Proof.Machine
end

