-- ==== Sys2Proof/Machine/Formats.lean ====
section
/-! DEFINITION. Frame formats (R18, R23, R173): identifiers, the shared codes, acceptance of a received
frame, target fields, and the data bytes of beacons, draw notices, notices and identity replies. -/

namespace Sys2Proof.Machine

/-! ### Identifiers and kinds (R18) -/

/-- The twelve kinds of frame (section 2.1). -/
inductive Kind where
  | stopCall | drawNotice | motionRequest | protectRequest | postureBeacon | notice | wakeCall
  | restartRequest | identityQuery | identityReply | calibrationWrite | calibrationLock
  deriving DecidableEq, Repr

def Kind.code : Kind → Nat
  | .stopCall => 0 | .drawNotice => 1 | .motionRequest => 2 | .protectRequest => 3 | .postureBeacon => 4
  | .notice => 5 | .wakeCall => 6 | .restartRequest => 7 | .identityQuery => 8 | .identityReply => 9
  | .calibrationWrite => 10 | .calibrationLock => 11

/-- The kind of a kind number; 12 to 15 are not defined. -/
def Kind.ofCode : Nat → Option Kind
  | 0 => some .stopCall | 1 => some .drawNotice | 2 => some .motionRequest | 3 => some .protectRequest
  | 4 => some .postureBeacon | 5 => some .notice | 6 => some .wakeCall | 7 => some .restartRequest
  | 8 => some .identityQuery | 9 => some .identityReply | 10 => some .calibrationWrite
  | 11 => some .calibrationLock
  | _ => none

/-- The data length of a kind (section 2.1). -/
def Kind.length : Kind → Nat
  | .stopCall => 2 | .drawNotice => 4 | .motionRequest => 5 | .protectRequest => 4 | .postureBeacon => 8
  | .notice => 6 | .wakeCall => 1 | .restartRequest => 1 | .identityQuery => 1 | .identityReply => 8
  | .calibrationWrite => 7 | .calibrationLock => 1

/-- The identifier of a frame: kind × 128 + source station (R18). -/
def identOf (k : Kind) (source : Nat) : Nat := k.code * 128 + source

/-! ### Acceptance (R23) -/

/-- A motion station may send the node-sent kinds. -/
def isMotionStation (n : Nat) : Bool := n ≤ 5 || (8 ≤ n && n ≤ 13) || (16 ≤ n && n ≤ 17)

/-- A panel station. -/
def isPanelStation (n : Nat) : Bool := 32 ≤ n && n ≤ 126

/-- The source station tests of R23 for a kind. -/
def sourceAllowed (k : Kind) (source : Nat) : Bool :=
  if (18 ≤ source ∧ source ≤ 31) ∨ 127 ≤ source then false
  else match k with
    | .postureBeacon | .drawNotice | .wakeCall => isMotionStation source
    | .motionRequest | .protectRequest | .restartRequest | .identityQuery | .calibrationWrite
    | .calibrationLock => 32 ≤ source
    | .stopCall => isMotionStation source || isPanelStation source
    | .notice | .identityReply => true

/-- The acceptance tests of R23 on a frame received whole: the kind when it passes them all. -/
def acceptRaw (f : RawFrame) : Option Kind :=
  if f.remote then none
  else match Kind.ofCode (f.ident.toNat / 128) with
    | none => none
    | some k => if f.dlc.toNat = k.length ∧ sourceAllowed k (f.ident.toNat % 128) then some k else none

/-! ### Target fields (R46, R173) -/

/-- The targets a MOTION REQUEST can name. -/
inductive Target where
  | station (n : Nat)
  | allJacks | allSlides | allAwnings | all
  deriving DecidableEq, Repr

/-- The target a byte holds; other values are undefined. -/
def Target.ofByte (b : Byte) : Option Target :=
  if b.toNat ≤ 126 then some (.station b.toNat)
  else if b = 200 then some .allJacks
  else if b = 201 then some .allSlides
  else if b = 202 then some .allAwnings
  else if b = 255 then some .all
  else none

/-- A MOTION REQUEST with this target names a node of this role and station (R46). -/
def Target.names (t : Target) (role : Role) (station : Nat) : Bool :=
  match t with
  | .station n => n = station
  | .allJacks => role = .jack
  | .allSlides => role = .slide
  | .allAwnings => role = .awning
  | .all => true

/-- A one-station or ALL target, as RESTART REQUEST and IDENTITY QUERY carry, names the station. -/
def byteNames (b : Byte) (station : Nat) : Bool := (b.toNat = station && b.toNat ≤ 126) || b = 255

/-! ### Shared codes (R173) -/

def roleCode : Role → Nat
  | .jack => 0 | .slide => 1 | .awning => 2 | .invalid => 3

def activityCode : Activity → Nat
  | .idle => 0 | .waiting => 1 | .driving => 2 | .paused => 3 | .halted => 4 | .faulted => 5

def activityOf : Nat → Option Activity
  | 0 => some .idle | 1 => some .waiting | 2 => some .driving | 3 => some .paused | 4 => some .halted
  | 5 => some .faulted
  | _ => none

def classCode : PosClass → Nat
  | .unknown => 0 | .stowed => 1 | .partway => 2 | .deployed => 3

def classOf (n : Nat) : PosClass :=
  if n = 0 then .unknown else if n = 1 then .stowed else if n = 2 then .partway else .deployed

def phaseCode : Phase → Nat
  | .none => 0 | .footing => 1 | .lifting => 2 | .snugging => 3 | .settling => 4 | .stable => 5 | .trim => 6

def phaseOf : Nat → Option Phase
  | 0 => some .none | 1 => some .footing | 2 => some .lifting | 3 => some .snugging | 4 => some .settling
  | 5 => some .stable | 6 => some .trim
  | _ => Option.none

def wakeCode : WakeCause → Nat
  | .none => 0 | .powerOn => 1 | .resetPin => 2 | .tilt => 3 | .wind => 4 | .input => 5 | .stopLine => 6
  | .bus => 7 | .busRecovery => 8

def wakeOf : Nat → Option WakeCause
  | 0 => some .none | 1 => some .powerOn | 2 => some .resetPin | 3 => some .tilt | 4 => some .wind
  | 5 => some .input | 6 => some .stopLine | 7 => some .bus | 8 => some .busRecovery
  | _ => Option.none

def faultCode : FaultKind → Nat
  | .stall => 1 | .rack => 2 | .travelTime => 3 | .overcurrent => 4 | .supplyLow => 5 | .sensor => 6
  | .peerLost => 7 | .holdConflict => 8 | .strokeLimit => 9 | .tooSteep => 10 | .duplicate => 11
  | .overheat => 12 | .config => 13

/-- The fault code of a beacon: none or a kind; 14 and 15 are undefined (outer `none`). -/
def faultOf : Nat → Option (Option FaultKind)
  | 0 => some none | 1 => some (some .stall) | 2 => some (some .rack) | 3 => some (some .travelTime)
  | 4 => some (some .overcurrent) | 5 => some (some .supplyLow) | 6 => some (some .sensor)
  | 7 => some (some .peerLost) | 8 => some (some .holdConflict) | 9 => some (some .strokeLimit)
  | 10 => some (some .tooSteep) | 11 => some (some .duplicate) | 12 => some (some .overheat)
  | 13 => some (some .config)
  | _ => none

def orderCode : Order → Nat
  | .extend => 1 | .retract => 2 | .level => 3 | .stow => 4 | .halt => 5 | .runPlan => 6 | .clear => 7
  | .sleep => 8

def reasonCode : Reason → Nat
  | .stopActive => 1 | .road => 2 | .inhibited => 3 | .positionUnknown => 4 | .interlock => 5
  | .peerMissing => 6 | .windHoldoff => 7 | .notPermitted => 8 | .busy => 9 | .duplicate => 10
  | .conditionPresent => 11 | .alreadyWritten => 12 | .crcMismatch => 13

def eventNum : EventCode → Nat
  | .windRetract => 1 | .hot => 2 | .hotClear => 3 | .planEnd => 4 | .levelReached => 5 | .roadRelease => 6

/-- An inhibit field; values above 2 are undefined. -/
def inhibitOf (b : Byte) : Option Inhibit :=
  if b = 0 then some .none else if b = 1 then some .extend else if b = 2 then some .both else Option.none

/-- The lock action of a PROTECT REQUEST. -/
inductive LockAction where
  | keep | set | clear
  deriving DecidableEq, Repr

def lockOf (b : Byte) : Option LockAction :=
  if b = 0 then some .keep else if b = 1 then some .set else if b = 2 then some .clear else none

/-- The named details (R173). -/
def detailSense : Half := 0xFF01#16
def detailDriver : Half := 0xFF02#16
def detailCurrentSense : Half := 0xFF03#16
def detailSwitchPair : Half := 0xFF04#16
def detailTempSense : Half := 0xFF05#16
def detailTilt : Half := 0xFF06#16
def detailAccumulated : Half := 0xFF07#16
def detailWall : Half := 0xFF08#16

/-! ### Field packing (R173) -/

/-- A byte from a number. -/
def byteOf (n : Nat) : Byte := BitVec.ofNat 8 n

/-- A flag as a number. -/
def flag (b : Bool) : Nat := if b then 1 else 0

/-- A two-byte field, high-order byte first. -/
def halfBytes (n : Nat) : List Byte := [byteOf (n / 256), byteOf n]

/-- A 12-bit signed field as its bits. -/
def s12Bits (i : Int) : Nat := (i % 4096).toNat

/-- A 12-bit signed field from its bits. -/
def s12Of (n : Nat) : Int := if n < 2048 then (n : Int) else (n : Int) - 4096

/-- An 8-bit signed field as its bits, and back. -/
def s8Bits (i : Int) : Nat := (i % 256).toNat
def s8Of (n : Nat) : Int := if n < 128 then (n : Int) else (n : Int) - 256

/-- A 16-bit signed detail. -/
def s16Half (i : Int) : Half := BitVec.ofInt 16 i

/-! ### Beacons (R27, R34, R173) -/

/-- The role a beacon body belongs to. -/
def BeaconBody.role : BeaconBody → Role
  | .jack .. => .jack
  | .slide .. => .slide
  | .awning .. => .awning

/-- The data bytes of a beacon. -/
def encodeBeacon (b : Beacon) : Data8 :=
  let b0 := byteOf (roleCode b.body.role * 64 + flag b.ready * 32 + flag b.retiring * 16 + flag b.roadAlarm * 8)
  let b1 := byteOf (wakeCode b.wake * 16 + (match b.fault with | some k => faultCode k | none => 0))
  match b.body with
  | .jack phase best off limit contact act cls pitch roll stroke =>
    { b0 := b0, b1 := b1
      b2 := byteOf (phaseCode phase * 32 + flag best * 16 + flag off * 8 + flag limit * 4 + flag contact * 2)
      b3 := byteOf (activityCode act * 32 + classCode cls * 8 + stroke / 256 % 4)
      b4 := byteOf (s12Bits pitch / 16)
      b5 := byteOf (s12Bits pitch % 16 * 16 + s12Bits roll / 256)
      b6 := byteOf (s12Bits roll % 256)
      b7 := byteOf (stroke % 256) }
  | .slide actA actB cls posA posB rack =>
    { b0 := b0, b1 := b1
      b2 := byteOf (activityCode actA * 32 + activityCode actB * 4 + classCode cls)
      b3 := byteOf (posA / 256), b4 := byteOf (posA % 256)
      b5 := byteOf (posB / 256), b6 := byteOf (posB % 256)
      b7 := byteOf (s8Bits rack) }
  | .awning act cls pos wind holdOff source =>
    { b0 := b0, b1 := b1
      b2 := byteOf (activityCode act * 32 + classCode cls * 8 + flag holdOff * 4 + flag source * 2)
      b3 := byteOf (pos / 256), b4 := byteOf (pos % 256)
      b5 := byteOf wind, b6 := 0, b7 := 0 }

/-- The bytes in the order they are sent. -/
def dataBytes (d : Data8) : List Byte := [d.b0, d.b1, d.b2, d.b3, d.b4, d.b5, d.b6, d.b7]

/-- The role a motion station's number gives it (R34). -/
def stationRole (n : Nat) : Role :=
  if n ≤ 5 then .jack else if 8 ≤ n ∧ n ≤ 13 then .slide else if 16 ≤ n ∧ n ≤ 17 then .awning else .invalid

/-- The role part of a beacon, with the encoding test of R34. -/
def decodeBody (role : Role) (d : Data8) : Option BeaconBody :=
  let n2 := d.b2.toNat
  match role with
  | .jack =>
    match phaseOf (n2 / 32), activityOf (d.b3.toNat / 32) with
    | some phase, some act =>
      let pitch := s12Of (d.b4.toNat * 16 + d.b5.toNat / 16)
      let roll := s12Of (d.b5.toNat % 16 * 256 + d.b6.toNat)
      if -1500 ≤ pitch ∧ pitch ≤ 1500 ∧ -1500 ≤ roll ∧ roll ≤ 1500 then
        some (.jack phase (n2 / 16 % 2 = 1) (n2 / 8 % 2 = 1) (n2 / 4 % 2 = 1) (n2 / 2 % 2 = 1) act
          (classOf (d.b3.toNat / 8 % 4)) pitch roll (d.b3.toNat % 4 * 256 + d.b7.toNat))
      else none
    | _, _ => none
  | .slide =>
    match activityOf (n2 / 32), activityOf (n2 / 4 % 8) with
    | some actA, some actB =>
      let posA := d.b3.toNat * 256 + d.b4.toNat
      let posB := d.b5.toNat * 256 + d.b6.toNat
      if posA ≤ 1000 ∧ posB ≤ 1000 then
        some (.slide actA actB (classOf (n2 % 4)) posA posB (s8Of d.b7.toNat))
      else none
    | _, _ => none
  | .awning =>
    match activityOf (n2 / 32) with
    | some act =>
      let pos := d.b3.toNat * 256 + d.b4.toNat
      if pos ≤ 1000 then
        some (.awning act (classOf (n2 / 8 % 4)) pos d.b5.toNat (n2 / 4 % 2 = 1) (n2 / 2 % 2 = 1))
      else none
    | none => none
  | .invalid => none

/-- A received beacon's contents, when it passes the role test and the encoding test of R34. -/
def decodeBeacon (source : Nat) (d : Data8) : Option Beacon :=
  let n0 := d.b0.toNat
  let n1 := d.b1.toNat
  if n0 / 64 = roleCode (stationRole source) then
    match wakeOf (n1 / 16), faultOf (n1 % 16), decodeBody (stationRole source) d with
    | some wake, some fault, some body =>
      some { ready := n0 / 32 % 2 = 1, retiring := n0 / 16 % 2 = 1, roadAlarm := n0 / 8 % 2 = 1,
             wake := wake, fault := fault, body := body }
    | _, _, _ => none
  else none

/-! ### The other frames the node sends (R173) -/

def noticeChanCode : NChan → Nat
  | .node => 0 | .a => 1 | .b => 2

/-- A NOTICE's data bytes. -/
def encodeNotice (n : Notice) : List Byte :=
  let (cls, code) := match n.code with
    | .fault k => (0, faultCode k)
    | .refusal r => (1, reasonCode r)
    | .event e => (2, eventNum e)
  [byteOf (cls * 64 + noticeChanCode n.chan), byteOf code, byteOf n.requester,
    byteOf (match n.order with | some o => orderCode o | none => 0)] ++ halfBytes n.detail.toNat

/-- A DRAW NOTICE's data bytes. -/
def encodeDraw (release : Bool) (amount baseClass yield : Nat) : List Byte :=
  [byteOf (flag release), byteOf amount, byteOf baseClass, byteOf yield]

/-- A STOP CALL's data bytes. -/
def encodeStopCall (k : FaultKind) (r : Role) : List Byte := [byteOf (faultCode k), byteOf (roleCode r)]

def recordStateCode : RecordState → Nat
  | .blank => 0 | .opened => 1 | .locked => 2

/-- The identity signature of a record state (R5). -/
def signature : RecordState → Byte
  | .blank => 0x3A#8 | .opened => 0x5C#8 | .locked => 0x9E#8

def modeCode : Mode → Nat
  | .start => 0 | .setup => 1 | .listen => 2 | .run => 3 | .watch => 4 | .lockout => 5

def lockoutCode : LockoutCause → Nat
  | .none => 0 | .role => 1 | .index => 2 | .crc => 3 | .field => 4 | .overheat => 5

/-- The data bytes of the IDENTITY REPLY composed from the state as it stands (R15, R32). -/
def identityReply (s : State) : List Byte :=
  [signature s.store.state] ++ halfBytes Config.partCode ++
    [byteOf (Config.revision * 16 + roleCode s.node.role * 4 + recordStateCode s.store.state),
     byteOf s.node.station, s.store.read 254, s.store.read 255,
     byteOf (modeCode s.node.mode * 32 + lockoutCode s.node.lockout)]

end Sys2Proof.Machine
end

