-- ==== Sys2Proof/Machine/Ops.lean ====
section
/-! DEFINITION. The shared operations of the blocks, from notices and the active fault list up to the end of an
order and a channel fault. Each is a total function of the state, named by the rule it follows. -/

namespace Sys2Proof.Machine

/-! ### Looking at the state -/

/-- The node mode is one in which the blocks run (LISTEN or RUN). -/
def State.active (s : State) : Bool := s.node.mode = .listen || s.node.mode = .run

/-- The node is a slide node. -/
def State.isSlide (s : State) : Bool := s.node.role = .slide

/-- The node is a jack node. -/
def State.isJack (s : State) : Bool := s.node.role = .jack

/-- The channels the node has. -/
def State.chanIds (s : State) : List ChanId := if s.isSlide then [.a, .b] else [.a]

/-- The node has this channel. -/
def State.hasChan (s : State) (ch : ChanId) : Bool := ch = .a || s.isSlide

/-- The controller is OFF (R21). -/
def State.offBus (s : State) : Bool := s.bus.err = .off

/-- The channel carries an order (R68). -/
def Channel.carries (c : Channel) : Bool := c.act = .waiting || c.act = .driving || c.act = .paused

/-- Some channel of the node carries an order. -/
def State.anyCarries (s : State) : Bool := s.chanIds.any fun ch => (s.chan ch).carries

/-- Some channel of the node is DRIVING. -/
def State.anyDriving (s : State) : Bool := s.chanIds.any fun ch => (s.chan ch).act = .driving

/-- The channel is KNOWN. -/
def Channel.known (c : Channel) : Bool := c.cls ≠ .unknown

/-- The position class the node reports: the channel's, or the room's (R126). -/
def State.nodeClass (s : State) : PosClass :=
  if s.isSlide then
    if s.chA.cls = .unknown ∨ s.chB.cls = .unknown then .unknown
    else if s.chA.cls = .stowed ∧ s.chB.cls = .stowed then .stowed
    else if s.chA.cls = .deployed ∧ s.chB.cls = .deployed then .deployed
    else .partway
  else s.chA.cls

/-- One activity for the two of a slide: the first that holds in the order of R36. -/
def pairActivity (x y : Activity) : Activity :=
  if x = .driving ∨ y = .driving then .driving
  else if x = .waiting ∨ y = .waiting then .waiting
  else if x = .paused ∨ y = .paused then .paused
  else if x = .faulted ∨ y = .faulted then .faulted
  else if x = .halted ∨ y = .halted then .halted
  else .idle

/-- The activity other nodes see of this node (R36). -/
def State.nodeActivity (s : State) : Activity :=
  if s.isSlide then pairActivity s.chA.act s.chB.act else s.chA.act

/-- The direction of a task (chapter 4; every AUTO order retracts, every session extends). -/
def Task.dir : Task → Dir
  | .extend | .level | .trim => .extend
  | .retract | .stow | .windRetract | .roadStow => .retract

/-- The order a notice names for a task. -/
def Task.order : Task → Order
  | .extend => .extend
  | .level | .trim => .level
  | .stow => .stow
  | .retract | .windRetract | .roadStow => .retract

/-- The task is a level session's. -/
def Task.session (t : Task) : Bool := t = .level || t = .trim

/-- The channel a notice about the node's order names: A, or node for a slide (R51, R55). -/
def State.orderChan (s : State) : NChan := if s.isSlide then .node else .a

/-- A channel's name in a notice. -/
def nchanOf : ChanId → NChan
  | .a => .a
  | .b => .b

/-- The requester of the node's order, or 0. -/
def State.requester (s : State) : Nat := (s.orders.cur.map (·.panel)).getD 0

/-- The order the node carries, as a notice names it. -/
def State.curOrder (s : State) : Option Order := s.orders.cur.map (·.task.order)

/-! ### Notices (R30) -/

/-- The notice reports a fault. -/
def Notice.isFault (n : Notice) : Bool :=
  match n.code with
  | .fault _ => true
  | _ => false

/-- Drop the newest notice that reports no fault. -/
def dropNewest (q : List Notice) : List Notice := (q.reverse.eraseP (! ·.isFault)).reverse

/-- The queue after a report: at most eight; a fault displaces the newest that is none (R30). -/
def queueNotice (n : Notice) (q : List Notice) : List Notice :=
  if q.length < Config.queueMax then q ++ [n]
  else if n.isFault && q.any (! ·.isFault) then dropNewest q ++ [n]
  else q

/-- The frame in flight of this kind no longer stands in its slot. -/
def Bus.unlive (kind : Kind) (b : Bus) : Bus :=
  { b with tx := b.tx.map fun t => if t.kind = kind.code then { t with live := false } else t }

/-- Put a notice in the queue (R30). -/
def pushNotice (n : Notice) (s : State) : State :=
  s.onBus fun b =>
    let q := queueNotice n b.notices
    let b := if q.head? = b.notices.head? then b else b.unlive .notice
    { b with notices := q }

/-- Report a notice by its fields (R30). -/
def notice (code : NoticeCode) (chan : NChan) (requester : Nat) (order : Option Order) (detail : Half)
    (s : State) : State :=
  pushNotice { code := code, chan := chan, requester := requester, order := order, detail := detail } s

/-- A value the manual does not give: the next free detail. -/
def State.freeDetail (s : State) : Half := Config.freeDetail s.free

/-- The next free value has been drawn. -/
def drawFree (s : State) : State := s.setFree (s.free + 1)

/-! ### Active faults and the STOP drive (R151, R152) -/

/-- Two entries stand for the same fault: kind and channel, and for SENSOR the detail (R151). -/
def ActiveFault.same (f g : ActiveFault) : Bool :=
  f.kind = g.kind && f.chan = g.chan && (f.kind ≠ .sensor || f.detail = g.detail)

/-- A fault joins the list, or moves to its newest place with its new detail (R151). -/
def joinFault (f : ActiveFault) (l : List ActiveFault) : List ActiveFault := l.filter (! f.same ·) ++ [f]

/-- A fault of this kind is listed. -/
def State.hasFault (s : State) (k : FaultKind) : Bool := s.stop.faults.any (·.kind = k)

/-- SENSOR with this detail is listed. -/
def State.hasSensor (s : State) (d : Half) : Bool :=
  s.stop.faults.any fun f => f.kind = .sensor && f.detail = d

/-- Faults leave the list. -/
def dropFaults (p : ActiveFault → Bool) (s : State) : State :=
  s.onStop fun u => { u with faults := u.faults.filter (! p ·) }

/-- The faults of a kind leave the list. -/
def dropKind (k : FaultKind) (s : State) : State := dropFaults (·.kind = k) s

/-- SENSOR with this detail leaves the list. -/
def dropSensor (d : Half) (s : State) : State := dropFaults (fun f => f.kind = .sensor && f.detail = d) s

/-- The stop mask holds the kind (R152). -/
def Cal.masks (c : Cal) (k : FaultKind) : Bool := c.stopMask.getLsbD (faultCode k)

/-- A report reaches the stop and fault unit: with the kind in the mask and no drive, a drive begins and
one STOP CALL is placed (R31, R152). -/
def stopReport (f : ActiveFault) (s : State) : State :=
  if s.active && s.cal.masks f.kind && s.stop.drive = .none then
    (s.onStop fun u =>
      { u with drive := if s.cal.driveCode = 1 then .pulsing else .latched, first := some f,
               pulse := if s.cal.driveCode = 1 then some 0 else none }).onBus fun b =>
      { b with stopCall := b.stopCall <|> some (f.kind, s.node.role) }
  else s

/-- A fault becomes active and is reported (R151, R152). -/
def raiseFault (k : FaultKind) (chan : NChan) (detail : Half) (s : State) : State :=
  let f : ActiveFault := { kind := k, chan := chan, detail := detail }
  stopReport f (s.onStop fun u => { u with faults := joinFault f u.faults })

/-- A fault notice, and the fault becomes active and is reported. -/
def noticeFault (k : FaultKind) (chan : NChan) (requester : Nat) (order : Option Order) (detail : Half)
    (s : State) : State :=
  raiseFault k chan detail (notice (.fault k) chan requester order detail s)

/-- The own drive is released: the line is let go and the first reason forgotten (R153, R154). -/
def releaseDrive (s : State) : State :=
  s.onStop fun u => { u with drive := .none, first := none, pulse := none }

/-! ### The own claim (R88, R89, R96) -/

/-- The yield count: the lesser of 3 and the passes (R96). -/
def State.yieldCount (s : State) : Nat := min 3 s.supply.passes

/-- The amount of the node's claim (R88). -/
def State.claimAmount (s : State) : Nat :=
  if s.isSlide then s.cal.chA.claim + s.cal.chB.claim else s.cal.chA.claim

/-- The base class of an order (R88). -/
def State.classOf (s : State) (o : Origin) : Nat :=
  if o = .auto then 0
  else match s.node.role with
    | .jack => 1
    | .slide => 2
    | _ => 3

/-- The claim is raised: a new claim, and a CLAIM notice pending at once (R29, R88). -/
def raiseClaim (baseClass : Nat) (s : State) : State :=
  (s.onSupply fun u =>
    { u with claim := some { amount := s.claimAmount, baseClass := baseClass, standing := .unsent, settle := 0 },
             passes := 0, cap := 0 }).onBus fun b =>
    { b.unlive .drawNotice with drawSlot := .claim, drawTimer := some 0 }

/-- The claim state is cleared (R89). -/
def clearClaim (s : State) : State := s.onSupply fun u => { u with claim := none, passes := 0, cap := 0 }

/-- The claim is released with one RELEASE (R29, R89). -/
def releaseClaim (s : State) : State :=
  match s.supply.claim with
  | none => s
  | some c =>
    (clearClaim s).onBus fun b =>
      { b.unlive .drawNotice with drawSlot := .release c.amount c.baseClass s.yieldCount, drawTimer := none }

/-- The claim is dropped and no RELEASE is sent (R29, R89). -/
def dropClaim (s : State) : State :=
  (clearClaim s).onBus fun b => { b.unlive .drawNotice with drawSlot := .empty, drawTimer := none }

/-- The claim ends when no channel carries an order (R89). -/
def settleClaim (s : State) : State := if s.anyCarries then s else releaseClaim s

/-! ### Admission (R91, R92) -/

/-- A ranking key: effective class, 0 when promoted, station; the lower key is ahead (R91). -/
structure RankKey where
  effClass : Nat
  unpromoted : Nat
  station : Nat
  deriving DecidableEq, Repr

/-- The key of a claim (R91). -/
def rankKey (nPromote baseClass yield station : Nat) : RankKey :=
  if nPromote ≤ yield then { effClass := baseClass - 1, unpromoted := 0, station := station }
  else { effClass := baseClass, unpromoted := 1, station := station }

/-- `k` ranks ahead of `l` (R91). -/
def RankKey.ahead (k l : RankKey) : Bool :=
  k.effClass < l.effClass
    || (k.effClass = l.effClass
        && (k.unpromoted < l.unpromoted || (k.unpromoted = l.unpromoted && k.station < l.station)))

/-- The claim record counts (R40). -/
def ClaimRec.counts (c : ClaimRec) : Bool := c.age ≤ Config.freshMs

/-- The amount a peer's record adds to A_i: its claim, when it counts and ranks ahead (R92). -/
def Peer.aheadAmount (nPromote : Nat) (own : RankKey) (p : Peer) : Nat :=
  match p.claim with
  | none => 0
  | some c => if c.counts && (rankKey nPromote c.baseClass c.yield p.station).ahead own then c.amount else 0

/-- A_i: the counting claims ranked ahead of the own key (R92). -/
def State.aheadSum (s : State) (own : RankKey) : Nat :=
  (s.peers.map (Peer.aheadAmount s.cal.nPromote own)).sum

/-- The budget cap for a room and an own claim (R92); a room below 0 is given as 0. -/
def budgetCap (room claim : Nat) : Nat :=
  if claim ≤ room then 100 else if claim ≤ room * 4 then 100 * room / claim else 0

/-- The own ranking key (R91). -/
def State.ownKey (s : State) (c : Claim) : RankKey :=
  rankKey s.cal.nPromote c.baseClass s.yieldCount s.node.station

/-- The admission decision: made once the standing is DECIDED (R92, R93). -/
def takeAdmission (s : State) : State :=
  match s.supply.claim with
  | none => s
  | some c =>
    if c.standing = .decided then
      s.onSupply fun u => { u with cap := budgetCap (s.cal.bTotal - s.aheadSum (s.ownKey c)) c.amount }
    else s

/-- Passes and yield count return to 0, and a change of them leads to a new decision (R93, R96). -/
def zeroPasses (s : State) : State :=
  if s.supply.passes = 0 then s else takeAdmission (s.onSupply fun u => { u with passes := 0 })

/-! ### Channel records (R68 to R71) -/

/-- What leaving DRIVING does: the duty is 0, the stall timer stops, the coast window opens (R71, R72). -/
def Channel.leaveDriving (c : Channel) : Channel :=
  if c.act = .driving then { c with applied := 0, stall := none, coast := some (c.drvDir, 0) } else c

/-- The order ends and the channel rests (R71). -/
def Channel.rest (a : Activity) (c : Channel) : Channel :=
  { c.leaveDriving with act := a, pause := none, order := none, roleWait := false, applied := 0, stall := none }

/-- Rest, when the channel carries an order; a channel at rest is left as it is (R71). -/
def Channel.restIfCarrying (a : Activity) (c : Channel) : Channel := if c.carries then c.rest a else c

/-- The channel waits: a yield, a role wait, or the end of a pause (R70). -/
def Channel.wait (c : Channel) : Channel :=
  { c.leaveDriving with act := .waiting, pause := none, applied := 0, stall := none }

/-- The channel pauses (R57, R81). -/
def Channel.pauseFor (k : PauseKind) (c : Channel) : Channel :=
  { c.leaveDriving with act := .paused, pause := some (k, 0), applied := 0, stall := none }

/-- The channel becomes FAULTED (R86). -/
def Channel.takeFault (k : FaultKind) (d : Half) (c : Channel) : Channel :=
  { c.rest .faulted with fault := some (k, d) }

/-- A start reaches the engine (R69). -/
def Channel.start (origin : Origin) (dir : Dir) (c : Channel) : Channel :=
  let moved : Channel :=
    if c.carries then
      if (c.order.map (·.dir)) = some dir then c
      else if c.act = .waiting then c
      else c.pauseFor .reversal
    else { c with act := .waiting, fault := none }
  { moved with order := some { origin := origin, dir := dir, age := 0 }, acc := 0, wall := 0, retries := 0,
               stallNoticed := false }

/-- The direction the channel's order drives in. -/
def Channel.dir (c : Channel) : Option Dir := c.order.map (·.dir)

/-- The class of a KNOWN channel's count (R73). -/
def classOfCount (n pMax : Nat) : PosClass :=
  if n = 0 then .stowed else if n < pMax then .partway else .deployed

/-- The channel stands at a count: it is KNOWN, with the count's class (R73, R74). -/
def Channel.place (n pMax : Nat) (c : Channel) : Channel := { c with count := n, cls := classOfCount n pMax }

/-- The home switch reads closed and is not disregarded for a closed pair (R74). -/
def State.homeReads (s : State) (ch : ChanId) : Bool :=
  (s.chan ch).homeClosed && (s.isJack || !(s.chan ch).outClosed)

/-- The out switch reads closed and is not disregarded; a jack has none (R74, R76). -/
def State.outReads (s : State) (ch : ChanId) : Bool :=
  !s.isJack && (s.chan ch).outClosed && !(s.chan ch).homeClosed

/-- Both switches of the channel read closed (R74). -/
def State.pairClosed (s : State) (ch : ChanId) : Bool :=
  !s.isJack && (s.chan ch).homeClosed && (s.chan ch).outClosed

/-- Some channel has both switches closed. -/
def State.anyPair (s : State) : Bool := s.chanIds.any s.pairClosed

/-! ### The duty step and the travel accumulator (R83, R127) -/

/-- The accumulator of the node's channels grows; on a slide it is held alike in both records. -/
def addAcc (n : Nat) (s : State) : State :=
  let s := s.onChA fun c => { c with acc := c.acc + n }
  if s.isSlide then s.onChB fun c => { c with acc := c.acc + n } else s

/-- A step in progress ends when no channel is DRIVING any more, and the accumulator takes it (R83). -/
def closeStep (s : State) : State :=
  match s.step with
  | none => s
  | some d => if s.anyDriving then s else addAcc d.duty (s.setStep none)

/-- The allowance of the node's order in seconds: on a slide the lesser of the two (R127). -/
def State.allowance (s : State) : Nat :=
  if s.isSlide then min s.cal.chA.allowance s.cal.chB.allowance else s.cal.chA.allowance

/-- The retry limit of the node's order (R82, R127). -/
def State.retryLimit (s : State) : Nat :=
  if s.isSlide then min s.cal.chA.retryLimit s.cal.chB.retryLimit else s.cal.chA.retryLimit

/-- The stall action is KEEP_TRYING (R82, R127). -/
def State.keepTrying (s : State) : Bool :=
  if s.isSlide then s.cal.chA.keepTrying && s.cal.chB.keepTrying else s.cal.chA.keepTrying

/-- The latched permission (check 9 of R49, R127). -/
def State.latchedOk (s : State) : Bool :=
  if s.isSlide then s.cal.chA.latchedOk && s.cal.chB.latchedOk else s.cal.chA.latchedOk

/-- The accumulator's limit (R83). -/
def State.accLimit (s : State) : Nat := s.allowance * 10000

/-- The wall time's limit in ms (R84). -/
def State.wallLimit (s : State) : Nat := 4 * s.allowance * 1000

/-! ### The press list (R47) -/

/-- The entry's press becomes SPENT. -/
def spendKey (k : PressKey) (l : List Press) : List Press :=
  l.map fun p => if p.key = k then { p with running := false } else p

/-- Every press becomes SPENT. -/
def spendAll (l : List Press) : List Press := l.map fun p => { p with running := false }

/-- Make room in a full list: the SPENT entry with the oldest last arrival goes, or, where none is SPENT, the
oldest of all (log 26). -/
def makeRoom (l : List Press) : List Press :=
  if l.length < Config.pressMax then l
  else if l.any (! ·.running) then l.eraseP (! ·.running)
  else l.tail

/-- A new press is entered in the list. -/
def enterPress (k : PressKey) (held running : Bool) (l : List Press) : List Press :=
  makeRoom l ++ [{ key := k, held := held, running := running, age := 0 }]

/-- The entry of a press, if the list holds one. -/
def findPress (k : PressKey) (l : List Press) : Option Press := l.find? (·.key = k)

/-- A repeat sets the entry's last arrival to the present, and makes it the newest. -/
def touchPress (k : PressKey) (l : List Press) : List Press :=
  match findPress k l with
  | none => l
  | some p => l.eraseP (·.key = k) ++ [{ p with age := 0 }]

/-! ### The end of a plan (R66) -/

/-- The outcomes of a plan (R66). -/
inductive PlanOutcome where
  | complete | skipped | aborted | abandoned | takenOver
  deriving DecidableEq, Repr

def outcomeCode : PlanOutcome → Nat
  | .complete => 0 | .skipped => 1 | .aborted => 2 | .abandoned => 3 | .takenOver => 4

/-- The steps of the cursor's plan. -/
def State.planSteps (s : State) (plan : Nat) : List StepCal := ((s.cal.plans[plan]?).map (·.steps)).getD []

/-- The node's station is in the mask of some step of the plan (R66). -/
def State.inPlan (s : State) (plan : Nat) : Bool :=
  (s.planSteps plan).any fun st => inMask st.mask s.node.station

/-- The key of the press that started a plan. -/
def Cursor.key (c : Cursor) : PressKey := { panel := c.panel, order := .runPlan, token := c.token }

/-- PLAN_END's detail: plan number and last step begun, then the outcome (R173). -/
def planEndDetail (c : Cursor) (o : PlanOutcome) : Half := BitVec.ofNat 16 ((c.plan * 16 + c.step) * 256 + outcomeCode o)

/-- The plan ends: the cursor clears, its press is SPENT, and a node named in a step says so (R62, R66). Nothing
is noticed while the controller is OFF. The press stays RUNNING when the plan's own retract goes on as a latched
order under it (R160). The notice's channel node and order none are the model's (DESIGN CHOICE, log 56). -/
def endPlan (o : PlanOutcome) (s : State) : State :=
  match s.orders.cursor with
  | none => s
  | some c =>
    let goesOn := (s.orders.cur.bind (·.press)) = some c.key
    let s := s.onOrders fun u =>
      { u with cursor := none, presses := if goesOn then u.presses else spendKey c.key u.presses }
    if s.inPlan c.plan && !s.offBus then
      notice (.event .planEnd) .node c.panel none (planEndDetail c o) s
    else s

/-! ### The end of an order (R54, R56, R71, R89) -/

/-- Why a channel is HALTED (R71). -/
inductive HaltReason where
  | halt | stopLine | stopCall | road | restart | busLost | duplicate | conflict | plan | baseMoved | peerLost
  deriving DecidableEq, Repr

/-- How an order ended. -/
inductive EndHow where
  /-- At its end state: end of travel, or STABLE for a session. -/
  | travel
  /-- Stopped short of it, IDLE: hold expiry, a cancelled stow. -/
  | stop
  | halt (r : HaltReason)
  | fault
  deriving DecidableEq, Repr

/-- The end sets `spent` for a wind retract and ends a road stow's standing for this release: a halt by an
operator, the STOP line, a STOP CALL or DUPLICATE, or a fault (R143, R162). -/
def EndHow.operator : EndHow → Bool
  | .halt .halt | .halt .stopLine | .halt .stopCall | .halt .duplicate | .fault => true
  | _ => false

/-- A plan step's end state by class and activity (R64). -/
def endState (t : Task) (cls : PosClass) (act : Activity) : Bool :=
  match t with
  | .extend => cls = .deployed && act = .idle
  | _ => cls = .stowed && act = .idle

/-- The node's own state shows the end state of a plan step (R63, R64). -/
def State.ownEnd (s : State) (t : Task) : Bool :=
  match t with
  | .level => s.isJack && s.level.phase = .stable
  | _ => endState t s.nodeClass s.nodeActivity

/-- A plan's own part after its order has ended: DONE at the step's end state, FAILED anywhere else (R63). -/
def State.endedPart (s : State) (t : Task) : Part := if s.ownEnd t then .done else .failed

/-- The wind unit learns how its retract ended (R143). -/
def windEnd (t : Task) (how : EndHow) (s : State) : State :=
  if t = .windRetract && how.operator then s.onWind fun w => { w with spent := true } else s

/-- The road unit learns how its stow ended (R162). -/
def stowEnd (t : Task) (how : EndHow) (s : State) : State :=
  if t = .roadStow then
    s.onRoad fun r =>
      { r with stow := if how = .halt .restart || how = .halt .busLost then .pending else .ended }
  else s

/-- The square unit's interlock standing and timers return to rest with the order (R131, R136). -/
def squareRest (s : State) : State := s.onSquare fun _ => .fresh

/-- The order of the node has ended: hold, press, plan part, wind and road unit, and the claim. A RELEASE takes the yield
count of the claim before the passes return to 0 (R29, R96; log 58). -/
def finishOrder (how : EndHow) (s : State) : State :=
  match s.orders.cur with
  | none => settleClaim (s.onOrders fun u => { u with hold := none })
  | some o =>
    let s := s.onOrders fun u =>
      { u with
        cur := none
        hold := none
        presses := (o.press.map fun k => spendKey k u.presses).getD u.presses
        cursor :=
          if o.origin = .plan then u.cursor.map fun c => { c with part := s.endedPart o.task } else u.cursor }
    zeroPasses (settleClaim (squareRest (stowEnd o.task how (windEnd o.task how s))))

/-! ### Starts (R69, R88) -/

/-- A start reaches a channel's engine; leaving FAULTED ends the activity of its recorded fault (R69, R86). -/
def startChan (ch : ChanId) (origin : Origin) (dir : Dir) (s : State) : State :=
  let cleared : State :=
    match (s.chan ch).fault with
    | some (k, _) =>
      if (s.chan ch).act = Activity.faulted then dropFaults (fun f => f.kind = k && f.chan = nchanOf ch) s else s
    | none => s
  cleared.onChan ch (Channel.start origin dir)

/-- The claim is raised when a channel has entered WAITING and the node holds none (R88). -/
def raiseIfWaiting (origin : Origin) (s : State) : State :=
  if s.supply.claim.isNone && s.anyCarries then raiseClaim (s.classOf origin) s else s

/-! ### Ending a level session (R122, R123) -/

/-- The level unit with phase NONE: flags clear, timers stopped, no leg; attitude and foot kept. -/
def Level.cleared (l : Level) : Level :=
  { l with phase := .none, leg := none, request := 0, bestEffort := false, limit := false, offLevel := false,
           footing := none, missing := none, settle := none, dwell := none, relift := 0 }

/-- The phases of a session in progress: FOOTING to TRIM, STABLE left out. -/
def inSession (p : Phase) : Bool :=
  match p with
  | .footing | .lifting | .snugging | .settling | .trim => true
  | .none | .stable => false

/-- The phase becomes NONE (R122, R123). -/
def clearLevel (s : State) : State := s.onLevel Level.cleared

/-- A session in FOOTING to TRIM becomes NONE; STABLE stays STABLE (R122). -/
def clearSession (s : State) : State := if inSession s.level.phase then clearLevel s else s

/-- The trim dwell timer stops (R124). -/
def stopDwell (s : State) : State := s.onLevel fun l => { l with dwell := none }

/-! ### Halts (R59, R71, R148) -/

/-- Every channel that carries an order rests with this activity. -/
def restAll (a : Activity) (s : State) : State :=
  closeStep ((s.onChA (Channel.restIfCarrying a)).onChB (Channel.restIfCarrying a))

/-- The node is halted: channels, level session, order, claim, in the order of R148. -/
def haltNode (r : HaltReason) (s : State) : State :=
  finishOrder (.halt r) (clearSession (restAll .halted s))

/-! ### Channel faults (R86, R128) -/

/-- The session ends with a fault on a running leg (R123). -/
def faultSession (carried : Bool) (s : State) : State := if carried then clearSession s else s

/-- The order ends by a fault, where one was carried. -/
def faultOrder (carried : Bool) (s : State) : State := if carried then finishOrder .fault s else s

/-- The requester and the order of the ended order, or 0 and none where none was running (R86). -/
def endedOrder (carried : Bool) (s : State) : Nat × Option Order :=
  if carried then (s.requester, s.curOrder) else (0, none)

/-- A channel takes a channel fault (R86); on a slide its partner is halted (R128). On a channel already FAULTED the
recorded fault stays; the new one is noticed, joins the list and is reported. -/
def chanFault (ch : ChanId) (k : FaultKind) (d : Half) (s : State) : State :=
  if (s.chan ch).act = .faulted then noticeFault k (nchanOf ch) 0 none d s
  else
    let carried := s.anyCarries
    let ended := endedOrder carried s
    let s := closeStep ((s.onChan ch (Channel.takeFault k d)).onChan ch.other (Channel.restIfCarrying .halted))
    noticeFault k (nchanOf ch) ended.1 ended.2 d (faultOrder carried (faultSession carried s))

/-- Both rams take a fault together: one notice, two entries, one report (R128). -/
def pairFault (k : FaultKind) (d : Half) (s : State) : State :=
  let carried := s.anyCarries
  let ended := endedOrder carried s
  let take (c : Channel) : Channel := if c.act = .faulted then c else c.takeFault k d
  let s := faultOrder carried (closeStep ((s.onChA take).onChB take))
  let s := notice (.fault k) .node ended.1 ended.2 d s
  stopReport { kind := k, chan := .node, detail := d }
    (s.onStop fun u =>
      { u with faults := joinFault { kind := k, chan := .b, detail := d }
                           (joinFault { kind := k, chan := .a, detail := d } u.faults) })

/-- A fault of the node's order as a whole (R99, R127, R128, R131): of the one channel of a jack or awning, and of both
rams of a slide. A ram that rests already takes RACK alone; its partner then takes the fault as one ram. -/
def orderFault (k : FaultKind) (d : Half) (s : State) : State :=
  if !s.isSlide then chanFault .a k d s
  else if k = .rack || (s.chA.carries && s.chB.carries) then pairFault k d s
  else if s.chA.carries then chanFault .a k d s
  else chanFault .b k d s

/-- The accumulator has reached its limit: TRAVEL_TIME, detail ACCUMULATED (R83). -/
def accCheck (s : State) : State :=
  if s.anyCarries && s.accLimit ≤ s.chA.acc then orderFault .travelTime detailAccumulated s else s

/-! ### The road alarm (R161) -/

/-- The flag follows the PARK level and the class of the node. -/
def updateAlarm (s : State) : State :=
  s.onRoad fun r => { r with alarm := r.park = some false && s.nodeClass ≠ .stowed }

end Sys2Proof.Machine
end

