-- ==== Sys2Proof/Machine/PeerTable.lean ====
section
/-! DEFINITION. The peer table (chapter 3): finding, applying and clearing entries, and the sets a reader asks
for (R41). -/

namespace Sys2Proof.Machine

/-! ### Entries -/

/-- The entry of a station. -/
def findPeer (l : List Peer) (st : Nat) : Option Peer := l.find? (·.station = st)

/-- Put an entry in its station's place, stations rising. -/
def putPeer (l : List Peer) (p : Peer) : List Peer :=
  match l with
  | [] => [p]
  | q :: rest =>
    if p.station < q.station then p :: q :: rest
    else if p.station = q.station then p :: rest
    else q :: putPeer rest p

/-- Change the entry of a station, if it has one; the station itself stays. -/
def mapPeer (st : Nat) (f : Peer → Peer) (l : List Peer) : List Peer :=
  l.map fun p => if p.station = st then { f p with station := p.station } else p

/-- The peer activity a beacon's contents give (R36). -/
def BeaconBody.activity : BeaconBody → Activity
  | .jack _ _ _ _ _ act _ _ _ _ => act
  | .slide actA actB _ _ _ _ => pairActivity actA actB
  | .awning act _ _ _ _ _ => act

/-- The position class a beacon's contents show. -/
def BeaconBody.cls : BeaconBody → PosClass
  | .jack _ _ _ _ _ _ cls _ _ _ => cls
  | .slide _ _ cls _ _ _ => cls
  | .awning _ cls _ _ _ _ => cls

/-- The level phase a jack's contents show. -/
def BeaconBody.phase : BeaconBody → Option Phase
  | .jack phase .. => some phase
  | _ => none

/-- The entry after a beacon arrival (R35, R38). -/
def arrival (old : Option Peer) (st : Nat) (b : Beacon) : Peer :=
  { station := st
    beacon := b
    act := b.body.activity
    prev := old.map (·.act)
    age := 0
    fresh := if b.retiring then .asleep else .fresh
    claim := old.bind (·.claim) }

/-- Apply a beacon that has passed the tests of R34 (R35). -/
def applyBeacon (st : Nat) (b : Beacon) (s : State) : State :=
  s.onPeers fun l => putPeer l (arrival (findPeer l st) st b)

/-- The arrival just applied shows a WAITING to DRIVING change while the claim counts (R35, R95). -/
def Peer.passes (p : Peer) : Bool :=
  p.prev = some .waiting && p.act = .driving && (p.claim.map ClaimRec.counts).getD false

/-- Apply a DRAW NOTICE's claim or release to its station's entry (R39). -/
def applyDraw (st : Nat) (c : Option ClaimRec) (s : State) : State :=
  s.onPeers (mapPeer st fun p => { p with claim := c })

/-- Clear the table (R43). -/
def clearPeers (s : State) : State := s.onPeers fun _ => []

/-! ### What the readers ask (R41) -/

/-- The station's entry, when it is FRESH. -/
def State.present (s : State) (st : Nat) : Option Peer :=
  match findPeer s.peers st with
  | some p => if p.fresh = .fresh then some p else none
  | none => none

/-- The station is missing: expected, not the own, and not FRESH (R41). -/
def State.missing (s : State) (st : Nat) : Bool := st ≠ s.node.station && (s.present st).isNone

/-- The missing jacks, lowest first. -/
def State.missingJacks (s : State) : List Nat := s.cal.expJacks.filter s.missing

/-- The expected jacks other than the node itself that are FRESH. -/
def State.jackPeers (s : State) : List Peer :=
  (s.cal.expJacks.filter (· ≠ s.node.station)).filterMap s.present

/-- Some slide entry, whatever its freshness and expected or not, satisfies `f` on its peer activity (R115, R120). -/
def State.someSlide (s : State) (f : Activity → Bool) : Bool :=
  s.peers.any fun p => stationRole p.station = .slide && f p.act

/-- The stow wait is met: every expected slide and awning FRESH and STOWED (R163). -/
def State.stowWaitMet (s : State) : Bool :=
  (s.cal.expSlides ++ s.cal.expAwnings).all fun st =>
    st = s.node.station || (s.present st).any (·.beacon.body.cls = .stowed)

/-- The jack condition of a slide order in this direction, for one expected jack (R134). -/
def jackAllows (dir : Dir) (p : Peer) : Bool :=
  p.act ≠ .waiting && p.act ≠ .driving && (dir = .retract || p.beacon.body.phase = some .stable)

/-- The slide interlock holds in this direction: every expected jack FRESH and allowing it (R134, R135). -/
def State.jacksAllow (s : State) (dir : Dir) : Bool :=
  s.cal.expJacks.all fun st => (s.present st).any (jackAllows dir)

end Sys2Proof.Machine
end

