-- ==== Sys2Proof/Machine/LevelUnit.lean ====
section
/-! DEFINITION. The level unit (chapter 7): attitude, consensus, the lift of a corner, legs, and the phases of a
session. -/

namespace Sys2Proof.Machine

/-! ### Attitude and consensus (R104, R106) -/

/-- Clamp an angle to ±1500 cdeg (R104). -/
def clampAngle (i : Int) : Int := max (-1500) (min 1500 i)

/-- Divide and round half away from zero. -/
def roundDiv (n : Int) (d : Nat) : Int := n.sign * (((2 * n.natAbs + d) / (2 * d) : Nat) : Int)

/-- The mean of a list, rounded half away from zero; 0 of an empty one (R104). -/
def meanRound (l : List Int) : Int := if l.isEmpty then 0 else roundDiv l.sum l.length

/-- A reading joins the window, which keeps the last four (R104). -/
def pushWindow (r : Int × Int) (w : List (Int × Int)) : List (Int × Int) :=
  let w := w ++ [r]
  w.drop (w.length - 4)

/-- Insert into an ascending list. -/
def insertAsc (i : Int) : List Int → List Int
  | [] => [i]
  | j :: rest => if i ≤ j then i :: j :: rest else j :: insertAsc i rest

/-- Ascending order, equal values kept. -/
def sortAsc : List Int → List Int
  | [] => []
  | i :: rest => insertAsc i (sortAsc rest)

/-- The lower median: index floor((n − 1) / 2) of the ascending set (R106). -/
def lowerMedian (l : List Int) : Int := ((sortAsc l)[(l.length - 1) / 2]?).getD 0

/-- A jack beacon's attitude. -/
def BeaconBody.attitude : BeaconBody → Option (Int × Int)
  | .jack _ _ _ _ _ _ _ pitch roll _ => some (pitch, roll)
  | _ => none

/-- The members of the consensus: own attitude and that of every FRESH expected jack peer (R106). -/
def State.attitudes (s : State) : List (Int × Int) :=
  (s.level.pitch, s.level.roll) :: s.jackPeers.filterMap fun p => p.beacon.body.attitude

/-- The consensus is computed again (R106). -/
def updateConsensus (s : State) : State :=
  let set := s.attitudes
  s.onLevel fun l => { l with p := lowerMedian (set.map (·.1)), q := lowerMedian (set.map (·.2)) }

/-- The level test (R106). -/
def State.levelTest (s : State) : Bool :=
  s.level.p.natAbs ≤ s.cal.tol && s.level.q.natAbs ≤ s.cal.tol

/-- The steep test fails (R113). -/
def State.steep (s : State) : Bool := s.cal.sMax < s.level.p.natAbs || s.cal.sMax < s.level.q.natAbs

/-! ### The lift of a corner (R107, R108) -/

/-- The height of a corner in mm (R107). -/
def cornerHeight (p q : Int) (xy : Int × Int) : Int :=
  let v := (xy.1 * p + xy.2 * q) * 1745
  v.sign * (((v.natAbs + 5000000) / 10000000 : Nat) : Int)

/-- The greatest of a list and a start value. -/
def maxOf (start : Int) (l : List Int) : Int := l.foldl max start

/-- The own lift L (R107). -/
def State.lift (s : State) : Nat :=
  match (s.cal.jackTable[s.node.station]?).join with
  | none => 0
  | some own =>
    let e := cornerHeight s.level.p s.level.q
    (maxOf (e own) ((s.cal.jackTable.filterMap id).map e) - e own).toNat

/-- The stroke in mm (R73). -/
def State.stroke (s : State) : Nat := s.chA.count / 2

/-- The remaining stroke (R108). -/
def State.remaining (s : State) : Nat := s.cal.chA.pMax / 2 - s.stroke

/-- The request for a lift above the deadband (R108). -/
def liftRequest (l : Nat) : Nat := min 100 (20 + 4 * l)

/-! ### Legs (R110) -/

/-- Start a leg: a start of the engine in the extend direction with the session order's origin (R110). -/
def startLeg (k : LegKind) (request : Nat) (s : State) : State :=
  let origin := (s.orders.cur.map (·.origin)).getD .latched
  raiseIfWaiting origin
    ((startChan .a origin .extend s).onLevel fun l => { l with leg := some k, request := request })

/-- Stop the running leg: the channel rests IDLE and the claim is released (R110). -/
def stopLeg (s : State) : State :=
  if s.level.leg.isNone then s
  else
    zeroPasses (settleClaim (closeStep
      ((s.onChA (Channel.restIfCarrying .idle)).onLevel fun l => { l with leg := none, request := 0 })))

/-- Set the running leg's request. -/
def setRequest (r : Nat) (s : State) : State :=
  s.onLevel fun l => if l.leg.isSome then { l with request := r } else l

/-! ### Phases (R112 to R121) -/

/-- Entry to SETTLING (R119). -/
def enterSettling (s : State) : State :=
  s.onLevel fun l => { l with phase := .settling, settle := some 0, missing := none, footing := none }

/-- Entry to SNUGGING (R118). -/
def enterSnugging (s : State) : State :=
  if s.cal.footFitted && s.level.footClosed then
    enterSettling (s.onLevel fun l => { l with contact := true })
  else
    startLeg .snug 30
      (s.onLevel fun l => { l with phase := .snugging, contact := false, missing := none, footing := none })

/-- Lifting has ended: the leg is stopped; LIFTING goes to SNUGGING and TRIM to SETTLING (R114, R117, R121). -/
def liftEnd (s : State) : State :=
  let s' := stopLeg s
  if s.level.phase = .trim then enterSettling s' else enterSnugging s'

/-- Set LIMIT and BEST_EFFORT (R117). -/
def setLimit (s : State) : State := s.onLevel fun l => { l with limit := true, bestEffort := true }

/-- A FRESH expected jack peer shows LIMIT (R114). -/
def State.peerLimit (s : State) : Bool :=
  s.jackPeers.any fun p =>
    match p.beacon.body with
    | .jack _ _ _ limit _ _ _ _ _ _ => limit
    | _ => false

/-- The evaluation of LIFTING and TRIM (R114, R116, R117). -/
def evalLift (s : State) : State :=
  if s.missingJacks ≠ [] then
    setRequest 0 (s.onLevel fun l => { l with missing := l.missing <|> some 0 })
  else
    let s := s.onLevel fun l => { l with missing := none }
    if s.peerLimit then liftEnd (s.onLevel fun l => { l with bestEffort := true })
    else if s.levelTest then liftEnd s
    else if s.lift ≤ s.cal.deadband then setRequest 0 s
    else if s.remaining < s.lift then liftEnd (setLimit s)
    else if s.level.leg.isSome then setRequest (liftRequest s.lift) s
    else startLeg (if s.level.phase = .trim then .trim else .lift) (liftRequest s.lift) s

/-- The session ends with TOO_STEEP (R113, R123). Its notice names the session order's requester and order, 0 and none at
the entry to TRIM (DESIGN CHOICE, log 56). -/
def tooSteep (s : State) : State :=
  let req := s.requester
  let ord := s.curOrder
  let detail : Half := BitVec.ofNat 16 (max s.level.p.natAbs s.level.q.natAbs)
  let s := finishOrder .stop (clearLevel (stopLeg s))
  raiseFault .tooSteep .node detail (notice (.fault .tooSteep) .a req ord detail s)

/-- Entry to LIFTING: the steep test, and the first evaluation (R113, R119). -/
def enterLifting (s : State) : State :=
  if s.steep then tooSteep s
  else evalLift (s.onLevel fun l => { l with phase := .lifting, footing := none, settle := none })

/-- A peer shows its foot in contact (R113). -/
def Peer.inContact (p : Peer) : Bool :=
  match p.beacon.body with
  | .jack _ _ _ _ contact _ _ _ _ _ => contact
  | _ => false

/-- The expected jacks other than the node that do not show CONTACT, lowest first (R113). -/
def State.notInContact (s : State) : List Nat :=
  s.cal.expJacks.filter fun st =>
    st ≠ s.node.station && !(s.present st).any Peer.inContact

/-- The footing test (R113). -/
def testFooting (s : State) : State :=
  if s.level.phase = .footing && s.level.contact && s.notInContact.isEmpty then enterLifting s else s

/-- The conditions of the trim dwell, in RUN with the controller not OFF (R120, R21); OFF_LEVEL set leaves nothing to
wait for (log 22). -/
def State.dwellHolds (s : State) : Bool :=
  s.node.mode = .run && !s.offBus && s.level.phase = .stable
    && (2 * s.cal.tol < s.level.p.natAbs || 2 * s.cal.tol < s.level.q.natAbs)
    && !s.someSlide (fun a => a = .waiting || a = .driving)
    && s.road.park = some true && s.missingJacks.isEmpty && !s.hasSensor detailTilt && s.chA.act = .idle
    && !s.level.offLevel

/-- The trim dwell timer starts, runs on or returns to 0 (R120). -/
def updateDwell (s : State) : State :=
  let holds := s.dwellHolds
  s.onLevel fun l => { l with dwell := if holds then l.dwell <|> some 0 else none }

/-- The session is evaluated, by its phase (R113, R114, R120). -/
def evalLevel (s : State) : State :=
  match s.level.phase with
  | .footing => testFooting s
  | .lifting | .trim => evalLift s
  | .stable => updateDwell s
  | .none | .snugging | .settling => s

/-- Entry to TRIM: the steep test; the level unit's own order; the first evaluation (R121). -/
def enterTrim (s : State) : State :=
  if s.steep then tooSteep s
  else
    evalLift ((s.onLevel fun l => { l with phase := .trim, dwell := none, relift := 0 }).onOrders fun u =>
      { u with cur := some { task := .trim, origin := .latched, panel := 0, press := none, override := false } })

/-- What the completed dwell leads to (R120). -/
def trimComplete (s : State) : State :=
  if s.cal.autoTrim && !s.level.bestEffort then enterTrim s
  else s.onLevel fun l => { l with offLevel := true, dwell := none }

/-- A LEVEL has been accepted and its FOOT leg's start handed to the engine: the session begins (R111, R112). -/
def beginSession (s : State) : State :=
  let s := dropKind .peerLost (dropKind .tooSteep s)
  let s := s.onLevel fun l => { l.cleared with phase := .footing, leg := some .foot, request := 100 }
  if s.level.contact then testFooting ((stopLeg s).onLevel fun l => { l with footing := some 0 }) else s

/-- The foot state becomes CONTACT; a FOOT or SNUG leg ends (R109, R112, R118). -/
def footContact (s : State) : State :=
  let s := s.onLevel fun l => { l with contact := true }
  match s.level.leg with
  | some .foot => testFooting ((stopLeg s).onLevel fun l => { l with footing := some 0 })
  | some .snug => enterSettling (stopLeg s)
  | _ => testFooting s

/-- LEVEL_REACHED's detail (R173). -/
def levelDetail (l : Level) : Half := BitVec.ofNat 16 ((flag l.bestEffort + 2 * flag l.limit) * 256 + l.relift)

/-- Entry to STABLE: the session order ends at its end state, with LEVEL_REACHED (R119). -/
def enterStable (s : State) : State :=
  let req := s.requester
  let ord : Option Order := if (s.orders.cur.map (·.task)) = some .trim then none else some .level
  let s := finishOrder .travel (s.onLevel fun l => { l with phase := .stable, settle := none })
  notice (.event .levelReached) .a req ord (levelDetail s.level) s

/-- The settle time has ended (R119). -/
def settlingDone (s : State) : State :=
  let s := s.onLevel fun l => { l with settle := none }
  if s.levelTest || s.level.bestEffort then enterStable s
  else if s.level.relift < Config.reliftMax then
    enterLifting (s.onLevel fun l => { l with relift := l.relift + 1 })
  else enterStable (s.onLevel fun l => { l with bestEffort := true })

/-- A session ends with PEER_LOST: the leg is halted, the order ends without its end state (R113, R116). At the
missing limit the notice's requester and order are the model's, those of the session's order (DESIGN CHOICE, log 56). -/
def sessionPeerLost (detail : Nat) (s : State) : State :=
  let req := s.requester
  let ord := s.curOrder
  let d : Half := BitVec.ofNat 16 detail
  let s := finishOrder (.halt .peerLost) (clearLevel (restAll .halted s))
  raiseFault .peerLost .node d (notice (.fault .peerLost) .a req ord d s)

/-- TILT becomes active: the notice, the fault, and the end of a session (R105). -/
def tiltFault (s : State) : State :=
  let session := (s.orders.cur.map (·.task.session)).getD false
  let req := if session then s.requester else 0
  let ord : Option Order := if session then some .level else none
  let s := raiseFault .sensor .node detailTilt (notice (.fault .sensor) .a req ord detailTilt s)
  if inSession s.level.phase then finishOrder .stop (clearLevel (stopLeg s)) else s

/-- A jack's count stands at P_max on an extend order: the order ends IDLE, STROKE_LIMIT is raised, and the level
unit acts on it by its phase (R76, R112, R117). -/
def strokeLimit (s : State) : State :=
  let req := s.requester
  let ord := s.curOrder
  let d : Half := BitVec.ofNat 16 s.stroke
  let s := closeStep (s.onChA (Channel.restIfCarrying .idle))
  let s := raiseFault .strokeLimit .node d (notice (.fault .strokeLimit) .a req ord d s)
  match s.level.leg with
  | none => finishOrder .travel s
  | some .foot => finishOrder .stop (clearLevel s)
  | some .snug =>
    enterSettling (settleClaim ((setLimit s).onLevel fun l => { l with leg := none, request := 0, contact := false }))
  | some _ => liftEnd (setLimit s)

/-- A reading joins the window; own attitude, consensus and session follow (R104, R106). -/
def takeReading (r : Int × Int) (s : State) : State :=
  let s := s.onLevel fun l =>
    let w := pushWindow r l.window
    { l with window := w, pitch := meanRound (w.map (·.1)), roll := meanRound (w.map (·.2)) }
  evalLevel (updateConsensus s)

end Sys2Proof.Machine
end

