-- ==== Sys2Proof/Machine/Engine.lean ====
section
/-! DEFINITION. The channel engines at work: the duty composition (R77, R78), squaring (R129, R130), role waits
(R115, R132, R135, R163), yields and entries to DRIVING (R70, R94). -/

namespace Sys2Proof.Machine

/-! ### Squaring (R129, R130) -/

/-- Both rams are KNOWN. -/
def State.bothKnown (s : State) : Bool := s.chA.known && s.chB.known

/-- The rack error d = count A − count B (R129). -/
def State.rackError (s : State) : Int := (s.chA.count : Int) - (s.chB.count : Int)

/-- m = |d|. -/
def State.rackSize (s : State) : Nat := s.rackError.natAbs

/-- The direction of the node's order. -/
def State.taskDir (s : State) : Dir := ((s.orders.cur.map (·.task.dir))).getD .extend

/-- The ram leads in the driven direction (R129). -/
def State.leads (s : State) (ch : ChanId) : Bool :=
  match s.taskDir with
  | .extend => (s.chan ch.other).count < (s.chan ch).count
  | .retract => (s.chan ch).count < (s.chan ch.other).count

/-- The width of the end zone (R80). -/
def endZone (pMax : Nat) : Nat := pMax * 5 / 100

/-- A KNOWN channel stands inside its end zone in the direction (R80); a jack has none in extension. -/
def State.inEndZone (s : State) (ch : ChanId) (dir : Dir) : Bool :=
  let c := s.chan ch
  let pMax := (s.cal.chan ch).pMax
  c.known &&
    match dir with
    | .retract => c.count ≤ endZone pMax
    | .extend => !s.isJack && pMax - endZone pMax ≤ c.count

/-- The base request of a slide (R129, R133). -/
def State.baseRequest (s : State) : Nat :=
  if !s.bothKnown then 50
  else if s.inEndZone .a s.taskDir || s.inEndZone .b s.taskDir then 40
  else 100

/-- The thermal cap: 25 while HOT or while the temperature sense has failed (R100, R102). -/
def State.thermalCap (s : State) : Nat :=
  if s.hasSensor detailTempSense || s.supply.hot then Config.hotCap else 100

/-- The least of the three caps of the supply share unit. -/
def State.caps (s : State) : Nat := min s.supply.cap (min s.supply.droop s.thermalCap)

/-- The request the square unit hands a ram (R130). -/
def State.squareRequest (s : State) (ch : ChanId) : Nat :=
  let base := s.baseRequest
  if !s.bothKnown || !s.leads ch || s.rackSize ≤ s.cal.syncBand then base
  else if s.cal.rLim ≤ s.rackSize then 0
  else min base s.caps * (s.cal.rLim - s.rackSize) / (s.cal.rLim - s.cal.syncBand)

/-! ### Duty (R75, R77, R78) -/

/-- The role request of a channel: the square unit's, the running leg's, or 100; 50 at most while homing. -/
def State.roleRequest (s : State) (ch : ChanId) : Nat :=
  let r :=
    match s.node.role with
    | .slide => s.squareRequest ch
    | .jack => if s.level.leg.isSome then s.level.request else 100
    | _ => 100
  if (s.chan ch).known then r else min r 50

/-- The composed duty: the least of role request, budget, droop and thermal cap (R77). -/
def State.composed (s : State) (ch : ChanId) : Nat := min (s.roleRequest ch) s.caps

/-- The duty to apply: a composed duty below 20 is applied as 0, and none is applied while the STOP line is sensed
low or in conflict quiet (R55, R70, R78). -/
def State.duty (s : State) (ch : ChanId) : Nat :=
  if s.stop.sensedLow || s.orders.quiet.isSome || s.composed ch < Config.minDuty then 0 else s.composed ch

/-- Apply a duty: the stall timer is held at 0 while it is 0 (R78, R79). -/
def Channel.apply (d : Nat) (c : Channel) : Channel :=
  { c with applied := d, stall := if d = 0 then some 0 else c.stall }

/-- A fall takes effect at once; a rise waits for the next step (R77). A channel not DRIVING has duty 0 (R68). -/
def Channel.lower (d : Nat) (c : Channel) : Channel :=
  if c.act = .driving then c.apply (min c.applied d) else { c with applied := 0 }

/-- The start of a duty step sets the duty from the values as they stand (R77). -/
def Channel.renew (d : Nat) (c : Channel) : Channel := if c.act = .driving then c.apply d else { c with applied := 0 }

/-- Compose again at once after a change (R77). -/
def recompose (s : State) : State :=
  let da := s.duty .a
  let db := s.duty .b
  (s.onChA (Channel.lower da)).onChB (Channel.lower db)

/-- A duty step begins: every DRIVING channel's duty is set, and the accumulator takes the larger (R77, R83, R127). -/
def openStep (s : State) : State :=
  let da := s.duty .a
  let db := s.duty .b
  let s := (s.onChA (Channel.renew da)).onChB (Channel.renew db)
  s.setStep (if s.anyDriving then some { duty := max s.chA.applied s.chB.applied, age := 0 } else none)

/-! ### Role waits -/

/-- The channel is in a pause. -/
def Channel.pausing (c : Channel) : Bool := c.act = .paused

/-- A panel's or the road unit's jack retract holds the stow wait: a road stow at all times, a panel's or plan's
order while PARK is taken ASSERTED, and never under override (R163). That a plan's part holds it as a panel's order does
is the model's (DESIGN CHOICE, log 71). -/
def State.underStowWait (s : State) : Bool :=
  match s.orders.cur with
  | none => false
  | some o =>
    o.task = .roadStow
      || ((o.task = .retract || o.task = .stow) && !o.override && s.road.park = some true)

/-- The role wait the role logic wants for a channel. -/
def State.wantsWait (s : State) (ch : ChanId) : Bool :=
  match s.node.role with
  | .slide => s.square.lost || (s.chan ch.other).pausing
  | .jack =>
    ((s.level.phase = .lifting || s.level.phase = .trim) && s.someSlide (· = .driving))
      || (s.underStowWait && !s.stowWaitMet)
  | _ => false

/-- The slide's interlock is tested for the order running; an override order is not tested (R135 to R137). -/
def squareTest (s : State) : State :=
  if !s.isSlide then s
  else
    match s.orders.cur with
    | none => s
    | some o =>
      if o.override || s.jacksAllow o.task.dir then
        s.onSquare fun q => { q with lost := false, grace := none }
      else if s.square.lost then s
      else s.onSquare fun q => { q with lost := true, grace := some 0 }

/-- The role waits of channels that carry an order are set as the role logic wants them. -/
def updateWaits (s : State) : State :=
  let wa := s.wantsWait .a
  let wb := s.wantsWait .b
  (s.onChA fun c => { c with roleWait := c.carries && wa }).onChB
    fun c => { c with roleWait := c.carries && wb }

/-! ### Yields and entries to DRIVING (R70, R94) -/

/-- A DRIVING channel returns to WAITING when the budget cap is 0 or its role wait is set (R70). -/
def yieldChan (cap : Nat) (c : Channel) : Channel :=
  if c.act = .driving && (cap = 0 || c.roleWait) then c.wait else c

/-- Every channel of the node yields that must; a step nobody drives any more ends; the accumulator is tested. -/
def yieldAll (s : State) : State :=
  let cap := s.supply.cap
  accCheck (closeStep ((s.onChA (yieldChan cap)).onChB (yieldChan cap)))

/-- Place a channel at a count; STROKE_LIMIT ends below P_max, and the road alarm follows (R73, R76, R161). -/
def placeChan (ch : ChanId) (n : Nat) (s : State) : State :=
  let pMax := (s.cal.chan ch).pMax
  let s := s.onChan ch (Channel.place n pMax)
  let s := if s.isJack && n < pMax then dropKind .strokeLimit s else s
  updateAlarm s

/-- The home switch takes effect: count 0, STOWED; a jack's foot is in the AIR (R74, R109). -/
def snapHome (ch : ChanId) (s : State) : State :=
  let s := placeChan ch 0 s
  if s.isJack then s.onLevel fun l => { l with contact := false } else s

/-- The out switch takes effect: count P_max, DEPLOYED (R74). -/
def snapOut (ch : ChanId) (s : State) : State := placeChan ch (s.cal.chan ch).pMax s

/-- A channel meets its end of travel: it rests IDLE, and the order ends when no other ram carries it (R71, R74,
R80, R132). -/
def endOfTravel (ch : ChanId) (s : State) : State :=
  let s := closeStep (s.onChan ch (Channel.restIfCarrying .idle))
  if s.anyCarries then s else finishOrder .travel s

/-- A WAITING channel may drive (R70): RUN, the controller not OFF, a budget cap, no role wait, the line high. -/
def State.mayDrive (s : State) (ch : ChanId) : Bool :=
  s.node.mode = .run && !s.offBus && (s.chan ch).act = .waiting && 0 < s.supply.cap && !(s.chan ch).roleWait
    && !s.stop.sensedLow

/-- The engine drives the channel: coast window closed, stall timer from 0, DRVx_DIR set (R68, R70). -/
def Channel.drive (dir : Dir) (c : Channel) : Channel :=
  { c with act := .driving, coast := none, stall := some 0, drvDir := dir, pause := none, applied := 0 }

/-- Entry to DRIVING, with the test for an order already at its end (R70); a jack that drives in retract has its foot
in the AIR (R109). An order that ends here at a closed switch is at its end of travel: the switch sets count and class as
its closing does (R74, R132, R143; DEDUCED, log 62). On a jack the home switch so takes the foot to the AIR too, where R109
names only its closing and an entry to DRIVING (DESIGN CHOICE, log 73). -/
def tryDrive (ch : ChanId) (s : State) : State :=
  if !s.mayDrive ch then s
  else
    match (s.chan ch).dir with
    | none => s
    | some .retract =>
      if s.homeReads ch then endOfTravel ch (snapHome ch s)
      else
        let s := s.onChan ch (Channel.drive .retract)
        if s.isJack then s.onLevel fun l => { l with contact := false } else s
    | some .extend =>
      if s.outReads ch then endOfTravel ch (snapOut ch s)
      else if s.isJack && (s.chan ch).known && (s.cal.chan ch).pMax ≤ (s.chan ch).count then strokeLimit s
      else s.onChan ch (Channel.drive .extend)

/-- A channel of the node has entered DRIVING between two states. -/
def enteredDriving (s t : State) : Bool :=
  (s.chA.act ≠ .driving && t.chA.act = .driving) || (t.isSlide && s.chB.act ≠ .driving && t.chB.act = .driving)

/-- On entry to DRIVING the passes return to 0, and the decision that follows a change may yield at once (R96). -/
def afterDrive (s t : State) : State := if enteredDriving s t then yieldAll (zeroPasses t) else t

/-- Duty steps begin with the first entry to DRIVING; a ram that joins takes its duty at the next step (R77, R127). Where
both rams have left DRIVING, the steps begin anew at the entry that follows (DESIGN CHOICE, log 69). -/
def beginSteps (s : State) : State := if s.step.isNone && s.anyDriving then openStep s else s

/-- Yields, then entries to DRIVING, ram A before ram B. An entry whose reset of the passes takes the cap away yields before
its first duty step begins, and adds nothing to the accumulator (DESIGN CHOICE, log 68). -/
def engage (s : State) : State :=
  let s := yieldAll s
  let t := tryDrive .a s
  let t := if t.isSlide then tryDrive .b t else t
  beginSteps (afterDrive s t)

/-! ### The timers that conditions run (R99, R131) -/

/-- The low-supply timer runs while V_s is below V_floor and a channel drives (R99). -/
def lowUpdate (s : State) : State :=
  let low := decide (s.inp.vs < s.cal.vFloor) && s.anyDriving
  let vs := s.inp.vs
  s.onSupply fun u =>
    { u with low := if low then some (((u.low.map fun x => (x.1, min x.2 vs))).getD (0, vs)) else none }

/-- Some ram is DRIVING or PAUSED. -/
def State.rackRuns (s : State) : Bool :=
  s.chA.act = .driving || s.chA.act = .paused || s.chB.act = .driving || s.chB.act = .paused

/-- The rack timer runs while the rack error stands at or beyond the limit under an order (R131). -/
def rackUpdate (s : State) : State :=
  if !s.isSlide then s
  else
    let stands := s.bothKnown && s.anyCarries && decide (s.cal.rLim ≤ s.rackSize)
    let runs := s.rackRuns
    s.onSquare fun q =>
      { q with rack := if !stands then none else if runs then q.rack <|> some 0 else q.rack }

/-- The engines after a change of their inputs: interlock, role waits, yields and entries, duty, and the timers that
conditions run. -/
def runEngines (s : State) : State := lowUpdate (rackUpdate (recompose (engage (updateWaits (squareTest s)))))

end Sys2Proof.Machine
end

