-- ==== Sys2Proof/Machine/Operands.lean ====
section
/-! DEFINITION. Reading a command's operands: switch levels from pins by the record's polarity (R74), the fields
of a MOTION REQUEST (R46, R173), current readings, and the straps (R2). -/

namespace Sys2Proof.Machine

/-! ### Straps (R2) -/

/-- The role and, where they give one, the station the straps decode to (R2). -/
def decodeStraps (inp : Inputs) : Role × Option Nat :=
  let idx := inp.idxStrap.toNat
  match inp.roleStrap.toNat with
  | 0 => (.jack, if idx ≤ 5 then some idx else none)
  | 1 => (.slide, if idx ≤ 5 then some (8 + idx) else none)
  | 2 => (.awning, if idx ≤ 1 then some (16 + idx) else none)
  | _ => (.invalid, none)

/-! ### Switch levels (R74) -/

/-- A switch input reads closed: high where it is wired closed-to-supply, low where closed-to-ground (R174). -/
def readsClosed (toSupply pin : Bool) : Bool := pin == toSupply

/-- The home switch of a channel reads closed in a sample. -/
def Cal.homeIn (c : Cal) (inp : Inputs) : ChanId → Bool
  | .a => readsClosed c.chA.homeToSupply inp.homeA
  | .b => readsClosed c.chB.homeToSupply inp.homeB

/-- The out switch of a channel reads closed in a sample. -/
def Cal.outIn (c : Cal) (inp : Inputs) : ChanId → Bool
  | .a => readsClosed c.chA.outToSupply inp.outA
  | .b => readsClosed c.chB.outToSupply inp.outB

/-- The polarity of a switch input in the record (R174). -/
def Cal.toSupply (c : Cal) : EndSwitch → ChanId → Bool
  | .home, .a => c.chA.homeToSupply
  | .home, .b => c.chB.homeToSupply
  | .out, .a => c.chA.outToSupply
  | .out, .b => c.chB.outToSupply

/-- The temperature sense is sound: −40 to +175 °C (R12, R102). -/
def tempSound (t : Int) : Bool := -40 ≤ t && t ≤ 175

/-- The token as a notice's detail (R51). -/
def tokenDetail (b : Byte) : Half := BitVec.ofNat 16 b.toNat

end Sys2Proof.Machine

namespace Sys2Proof

open Machine

/-! ### Current readings -/

/-- A current reading stands at or above a number of draw units; full scale always does (R85). -/
def Current.atLeast (c : Current) (n : Nat) : Bool :=
  match c with
  | .units m => n ≤ m
  | .fullScale => true

/-- OVERCURRENT's detail: the reading clamped to 255, or SENSE at full scale (R85). -/
def Current.detail : Current → Half
  | .units m => BitVec.ofNat 16 (min m 255)
  | .fullScale => detailSense

/-- The current sense of a channel in a sample. -/
def Inputs.isns (inp : Inputs) : ChanId → Current
  | .a => inp.isnsA
  | .b => inp.isnsB

/-- The current sense of a channel has been sampled. -/
def Inputs.setIsns (ch : ChanId) (reading : Current) (inp : Inputs) : Inputs :=
  match ch with
  | .a => { inp with isnsA := reading }
  | .b => { inp with isnsB := reading }

/-- A switch input has been sampled at this pin level. -/
def Inputs.setSwitch (sw : EndSwitch) (ch : ChanId) (pin : Bool) (inp : Inputs) : Inputs :=
  match sw, ch with
  | .home, .a => { inp with homeA := pin }
  | .home, .b => { inp with homeB := pin }
  | .out, .a => { inp with outA := pin }
  | .out, .b => { inp with outB := pin }

/-! ### MOTION REQUEST fields (R46, R173) -/

/-- The mode field is HELD; only bit 0 is read, so every value of the byte is defined. -/
def MotionReq.held (r : MotionReq) : Bool := !r.mode.getLsbD 0

/-- The override flag, bit 1. -/
def MotionReq.override (r : MotionReq) : Bool := r.mode.getLsbD 1

/-- The request names a node of this role and station, by a defined target (R46). -/
def MotionReq.names (r : MotionReq) (role : Role) (station : Nat) : Bool :=
  match Target.ofByte r.target with
  | some t => t.names role station
  | none => false

/-- The request's target is ALL. -/
def MotionReq.toAll (r : MotionReq) : Bool := Target.ofByte r.target = some .all

/-- The press list key of a request (R47). -/
def MotionReq.key (r : MotionReq) (o : Order) : PressKey := { panel := r.source, order := o, token := r.token }

/-- EXTEND and RETRACT run HELD where the mode field says so; LEVEL, STOW and RUN_PLAN never do (R46). -/
def MotionReq.runsHeld (r : MotionReq) (o : Order) : Bool := (o = .extend || o = .retract) && r.held

end Sys2Proof
end

