-- ==== Sys2Proof/Machine/OrderUnit.lean ====
section
/-! DEFINITION. The order unit (chapter 4), with the AUTO orders that the wind unit (R142) and the road unit (R162,
R163) hand it, the re-evaluation `settle` that every change of the engines' inputs is followed by, road release and
re-assertion (R160, R164), and the halts that reach the whole node. -/

namespace Sys2Proof.Machine

/-! ### The check list (R49, R50) -/

/-- An inhibit blocks a direction (check 5 of R49). -/
def inhibitBlocks (i : Inhibit) (d : Dir) : Bool :=
  match i with
  | .none => false
  | .extend => d = .extend
  | .both => true

/-- The protection set blocks a direction; on a slide the inhibit of either ram does (check 5). -/
def State.inhibited (s : State) (d : Dir) : Bool :=
  inhibitBlocks s.road.inhibitA d || (s.isSlide && inhibitBlocks s.road.inhibitB d)

/-- The role interlock of check 7: `none` when it holds (R50, R111, R134, R163). -/
def State.interlock (s : State) (t : Task) : Option Reason :=
  match s.node.role with
  | .jack =>
    match t with
    | .level =>
      if s.missingJacks ≠ [] then some .peerMissing
      else if s.hasSensor detailTilt then some .interlock else none
    | .retract | .stow => if s.road.park = some true ∧ ¬ s.stowWaitMet then some .interlock else none
    | _ => none
  | .slide =>
    if s.cal.expJacks.any s.missing then some .peerMissing
    else if s.jacksAllow t.dir then none else some .interlock
  | _ => none

/-- Check 10: the holder is not free for an order of this origin, from this panel, in this direction (R50). -/
def State.busy (s : State) (origin : Origin) (panel : Nat) (d : Dir) : Bool :=
  if s.orders.quiet.isSome then true
  else
    match s.orders.cur with
    | none => false
    | some o =>
      match s.orders.hold with
      | some h => h.panel ≠ panel
      | none => o.origin = .auto || (origin ≠ .held && o.task.dir = d)

/-- Check 9: a latched order from a panel needs the latched permission, and a jack takes no latched EXTEND. -/
def State.notLatched (s : State) (t : Task) : Bool := !s.latchedOk || (s.isJack && t = .extend)

/-- The first check of R49, from check 2 on, that an order fails. Check 7 is skipped under override (R58), and check 9 is
for a panel's latched orders, not for a plan part (R63). -/
def State.check (s : State) (t : Task) (origin : Origin) (override : Bool) (panel : Nat) : Option Reason :=
  if s.hasFault .duplicate then some .duplicate
  else if s.stop.sensedLow then some .stopActive
  else if t.dir = .extend ∧ s.road.park = some false then some .road
  else if s.inhibited t.dir then some .inhibited
  else if t.dir = .extend ∧ s.nodeClass = .unknown then some .positionUnknown
  else
    match (if override then none else s.interlock t) with
    | some r => some r
    | none =>
      if s.node.role = .awning ∧ t = .extend ∧ s.wind.holdOff.isSome then some .windHoldoff
      else if origin = .latched ∧ s.notLatched t then some .notPermitted
      else if s.busy origin panel t.dir then some .busy
      else none

/-- Reasons that come from check 7 alone. -/
def fromInterlock (r : Reason) : Bool := r = .interlock || r = .peerMissing

/-! ### Beginning an order (R52, R56, R57) -/

/-- The order that a new one replaces ends: its press is SPENT, its plan is taken over, its session is over, and a road
stow that a wind retract replaces has ENDED (R52, R56, R122, R162). -/
def endPrevious (s : State) : State :=
  match s.orders.cur with
  | none => s
  | some p =>
    let s := s.onOrders fun u =>
      { u with hold := none, cur := none, presses := (p.press.map fun k => spendKey k u.presses).getD u.presses }
    let s := if p.origin = .plan then endPlan .takenOver s else s
    let s := if p.task = .roadStow then s.onRoad fun r => { r with stow := .ended } else s
    zeroPasses (squareRest (if p.task.session then clearLevel s else s))

/-- An accepted HELD jack order, RETRACT or STOW, and an AUTO order, end a session and STABLE alike (R122). -/
def endStanding (o : CurOrder) (s : State) : State :=
  if s.isJack && (o.origin = .held || o.origin = .auto || o.task = .retract || o.task = .stow)
      && s.level.phase ≠ .none then
    clearLevel s
  else s

/-- The start is handed to every engine of the node (R125). -/
def startAll (origin : Origin) (dir : Dir) (s : State) : State :=
  s.chanIds.foldl (fun s ch => startChan ch origin dir s) s

/-- A duty step of the replaced order ends with it when no channel drives on (R69, R83). -/
def dropStep (s : State) : State := if s.anyDriving then s else s.setStep none

/-- The claim is raised, or goes on with the class of the new order (R88, R89). -/
def reclaim (origin : Origin) (s : State) : State :=
  match s.supply.claim with
  | none => raiseIfWaiting origin s
  | some c => takeAdmission (s.onSupply fun u => { u with claim := some { c with baseClass := s.classOf origin } })

/-- The RUNNING entry of the press that an order is started by, if one is (R47, R52). -/
def CurOrder.entry (o : CurOrder) : List Press :=
  (o.press.map fun k => { key := k, held := o.origin = .held, running := true, age := 0 }).toList

/-- An order begins (R52): the one it replaces ends, the hold, the order and its RUNNING press are set, the engines start,
the claim follows, and a LEVEL begins its session. -/
def beginOrder (o : CurOrder) (hold : Option Hold) (s : State) : State :=
  let s := endStanding o (endPrevious s)
  let s := s.onOrders fun u => { u with hold := hold, cur := some o, presses := u.presses ++ o.entry }
  let s := reclaim o.origin (dropStep (startAll o.origin o.task.dir s))
  if o.task = .level then beginSession s else s

/-- Conflict quiet ends, and HOLD_CONFLICT with it (R55). -/
def endQuiet (s : State) : State := dropKind .holdConflict (s.onOrders fun u => { u with quiet := none })

/-- An AUTO order is raised on the channel (R56). -/
def beginAuto (t : Task) (s : State) : State :=
  beginOrder { task := t, origin := .auto, panel := 0, press := none, override := false } none (endQuiet s)

/-! ### The wind retract (R142) -/

/-- The conditions of R142. -/
def State.windRaises (s : State) : Bool :=
  s.node.role = .awning && s.node.mode = .run && !s.offBus && s.cal.wR ≠ 0 && s.wind.highRun = 3 && !s.wind.spent
    && s.chA.cls ≠ .stowed && (s.orders.cur.map (·.task)) ≠ some .windRetract && !s.stop.sensedLow

/-- The test of R142, and the retract raised with its notice. -/
def windTest (s : State) : State :=
  if s.windRaises then
    notice (.event .windRetract) .a 0 (some .retract) (BitVec.ofNat 16 s.wind.runWind) (beginAuto .windRetract s)
  else s

/-- The channel's class has left STOWED: the wind retract is tested (R142). -/
def leftStowed (before : PosClass) (s : State) : State :=
  if before = .stowed && s.chA.cls ≠ .stowed then windTest s else s

/-! ### Re-evaluation -/

/-- What follows a change of the engines' inputs in LISTEN and RUN: the engines, and the wind retract where an order that
ended at its closed out switch has taken the class from STOWED (R70, R74, R142). -/
def settle (s : State) : State := if s.active then leftStowed s.chA.cls (runEngines s) else s

/-! ### The road stow (R162, R163) -/

/-- The road stow is raised and runs. -/
def raiseStow (s : State) : State := (beginAuto .roadStow s).onRoad fun r => { r with stow := .running }

/-- Set the stow standing. -/
def setStow (x : Stow) (s : State) : State := s.onRoad fun r => { r with stow := x }

/-- The stow wait is tested for a jack held back (R163). -/
def heldBackTest (s : State) : State :=
  if s.isJack && s.road.stow = .heldBack && s.node.mode = .run && !s.offBus && s.stowWaitMet then
    if s.chA.cls = .stowed then setStow .ended s else raiseStow s
  else s

/-- Step 5 of a road release, and the raise of a PENDING stow at entry to RUN (R160, R162, R163). -/
def stowBegin (s : State) : State :=
  let s := s.onRoad fun r => { r with stowDue := false }
  if s.isSlide || !s.cal.autoStow then setStow .none s
  else if s.chA.cls = .stowed then setStow .ended s
  else if s.isJack then heldBackTest (setStow .heldBack s)
  else if (s.orders.cur.map (·.task)) = some .windRetract then setStow .ended s
  else raiseStow s

/-- What entry to RUN does for the road unit (R160, R162, R163). -/
def stowAtRun (s : State) : State :=
  if s.road.park = some false ∧ (s.road.stowDue ∨ s.road.stow = .pending) then stowBegin s else heldBackTest s

/-! ### Halts of the whole node (R59, R148, R150) -/

/-- Every RUNNING press becomes SPENT. -/
def spendPresses (s : State) : State := s.onOrders fun u => { u with presses := spendAll u.presses }

/-- The node is halted, its presses SPENT and its plan abandoned: a HALT, the STOP line, a STOP CALL. -/
def haltAll (r : HaltReason) (s : State) : State := endPlan .abandoned (spendPresses (haltNode r s))

/-- The line is taken falling (R148). -/
def stopFall (s : State) : State := haltAll .stopLine (s.onStop fun u => { u with sensedLow := true })

/-! ### Road release and re-assertion (R160, R161, R164) -/

/-- The position class code of the channel farthest from stowed: UNKNOWN, DEPLOYED, PARTIAL (R161). -/
def State.farthest (s : State) : PosClass :=
  let cs := s.chanIds.map fun ch => (s.chan ch).cls
  if cs.contains .unknown then .unknown
  else if cs.contains .deployed then .deployed
  else if cs.contains .partway then .partway else .stowed

/-- An extension stands: the node's order extends (a session between its legs included), or a channel carries an
extend order. -/
def State.extending (s : State) : Bool :=
  (s.orders.cur.map (·.task.dir)) = some .extend || s.chanIds.any fun ch => (s.chan ch).carries && (s.chan ch).dir = some .extend

/-- Steps 1 and 2: extensions are halted with reason ROAD, and a level session or STABLE ends (R160, R122). -/
def roadHalt (s : State) : State :=
  if s.extending then finishOrder (.halt .road) (clearLevel (restAll .halted s))
  else if s.isJack then clearLevel s else s

/-- Step 3: the plan is abandoned; a retract part goes on as a latched order under the plan's press (R160). -/
def roadPlan (s : State) : State :=
  let goOn (c : Channel) : Channel := { c with order := c.order.map fun o => { o with origin := .latched } }
  let s :=
    match s.orders.cur, s.orders.cursor with
    | some o, some c =>
      if o.origin = .plan then
        ((s.onOrders fun u => { u with cur := some { o with origin := .latched, press := some c.key } }).onChA
          goOn).onChB goOn
      else s
    | _, _ => s
  endPlan .abandoned s

/-- Step 4: the road alarm, and the notice of a release that sets it (R161). -/
def roadAlarm (s : State) : State :=
  let s' := updateAlarm s
  if s'.road.alarm && !s.offBus then
    notice (.event .roadRelease) .node 0 none (BitVec.ofNat 16 (classCode s'.farthest)) s'
  else s'

/-- A road release (R160). -/
def roadRelease (s : State) : State :=
  let s := s.onRoad fun r => { r with park := some false }
  let s := roadAlarm (roadPlan (roadHalt s))
  if s.node.mode = .run && !s.offBus then stowBegin s else s.onRoad fun r => { r with stowDue := true }

/-- A road stow is stopped (R164). -/
def cancelStow (s : State) : State :=
  if (s.orders.cur.map (·.task)) = some .roadStow then finishOrder .stop (restAll .idle s) else s

/-- PARK is taken ASSERTED (R164). -/
def parkAsserted (s : State) : State :=
  updateAlarm ((cancelStow (s.onRoad fun r => { r with park := some true })).onRoad fun r =>
    { r with stow := .none, stowDue := false })

/-! ### Presses (R46 to R55) -/

/-- The idle count restarts (R46). -/
def restartIdle (s : State) : State := s.onOrders fun u => { u with idle := 0, idleReached := false }

/-- A press that the node does not start is entered as SPENT (R47). -/
def enterSpent (k : PressKey) (held : Bool) (s : State) : State :=
  s.onOrders fun u => { u with presses := enterPress k held false u.presses }

/-- A refusal of a press is noticed (R51). -/
def refusePress (reason : Reason) (chan : NChan) (panel : Nat) (o : Order) (detail : Half) (s : State) : State :=
  notice (.refusal reason) chan panel (some o) detail s

/-- Conflict quiet is timed again (R55). -/
def restartQuiet (s : State) : State := s.onOrders fun u => { u with quiet := u.quiet.map fun _ => 0 }

/-- A repeat (R47, R53): its last arrival is the present; a RUNNING repeat of a HELD order renews the hold; any HELD
request restarts conflict quiet (R55). -/
def repeatPress (p : Press) (heldRequest : Bool) (s : State) : State :=
  let s := s.onOrders fun u =>
    { u with
      presses := touchPress p.key u.presses
      hold := if p.running && p.held then u.hold.map fun h => { h with age := 0 } else u.hold }
  if heldRequest then restartQuiet s else s

/-- Two panels hold opposite orders (R55). The notice names the channel; the listed fault is the node's (R151).
In a full press list the holder's press is SPENT before room is made for the conflicting one, so its entry may be the one
that goes (DESIGN CHOICE, log 77). -/
def conflict (k : PressKey) (h : Hold) (s : State) : State :=
  let s := enterSpent k true (haltNode .conflict s)
  let d := s.freeDetail
  raiseFault .holdConflict .node d
    (notice (.fault .holdConflict) s.orderChan k.panel (some h.order) d
      ((drawFree s).onOrders fun u => { u with quiet := some 0 }))

/-- The task of a press. -/
def taskOf : Order → Task
  | .extend => .extend
  | .retract => .retract
  | .level => .level
  | _ => .stow

/-- A press has passed every check (R52): its entry finds room before the order it replaces ends (R47; log 77). -/
def acceptPress (o : Order) (r : MotionReq) (s : State) : State :=
  let held := r.runsHeld o
  let override := held && o = .retract && r.override
  let s := s.onOrders fun u => { u with presses := makeRoom u.presses }
  let s := if s.isSlide then dropKind .peerLost s else s
  beginOrder
    { task := taskOf o, origin := if held then .held else .latched, panel := r.source, press := some (r.key o),
      override := override }
    (if held then some { panel := r.source, order := o, token := r.token, age := 0 } else none) s

/-- A new press of EXTEND, RETRACT, LEVEL or STOW: the pre-tests of R48 and the check list of R49. -/
def newPress (o : Order) (r : MotionReq) (s : State) : State :=
  let held := r.runsHeld o
  let key := r.key o
  if held && s.orders.quiet.isSome then enterSpent key true (restartQuiet s)
  else
    let other := s.orders.hold.filter fun h => held && h.panel ≠ r.source
    match other with
    | some h => if h.order = o then enterSpent key true s else conflict key h s
    | none =>
      let sameLatched := s.orders.cur.any fun c => c.origin ≠ .held && c.task.dir = (taskOf o).dir
      if !held && sameLatched then enterSpent key false s
      else
        match s.check (taskOf o) (if held then .held else .latched) (held && o = .retract && r.override) r.source with
        | some reason => enterSpent key held (refusePress reason s.orderChan r.source o (tokenDetail r.token) s)
        | none => acceptPress o r s

/-- A taken press in RUN: the press list, then the tests (R46 to R49). -/
def takePress (o : Order) (r : MotionReq) (s : State) : State :=
  let s := restartIdle s
  match findPress (r.key o) s.orders.presses with
  | some p => repeatPress p (r.runsHeld o) s
  | none => newPress o r s

end Sys2Proof.Machine
end

