-- ==== Sys2Proof/Machine/Flags.lean ====
section
/-! DEFINITION. What the node shows: its drive outputs and line drives (R68, R152), the flags and fields of its beacons
(R27, R126), the SLEEP entry test (R61) and the conditions that CLEAR tests (R151). -/

namespace Sys2Proof.Machine

/-! ### Output pins -/

/-- DRVx_EN: active while the channel is DRIVING in LISTEN or RUN; held in reset, SETUP, WATCH and LOCKOUT switch it
off (R1, R10, R14, R68). -/
def State.drvEn (s : State) (ch : ChanId) : Bool := s.active && s.hasChan ch && (s.chan ch).act = .driving

/-- DRVx_PWM in percent: the applied duty while enabled, else low (R68). -/
def State.drvPwm (s : State) (ch : ChanId) : Nat := if s.drvEn ch then (s.chan ch).applied else 0

/-- The node pulls the STOP line low (R152). -/
def State.pullsStop (s : State) : Bool := s.stop.drive ≠ .none

/-- The STOP line stands low: this node or some other source pulls it (chapter 10). -/
def State.lineLow (s : State) : Bool := s.pullsStop || s.inp.stopPulled

/-! ### Beacon contents (R27) -/

/-- The fault code: the kind of the newest active fault (R151). -/
def State.faultShown (s : State) : Option FaultKind := s.stop.faults.getLast?.map (·.kind)

/-- A channel's position in per-mille, 0 while UNKNOWN (R73). -/
def perMille (c : Channel) (pMax : Nat) : Nat := if c.known then 1000 * c.count / pMax else 0

/-- The rack error a beacon or a RACK detail shows: clamped to −127 to +127, 0 while either ram is UNKNOWN (R126,
R131). -/
def State.rackShown (s : State) : Int := if s.bothKnown then max (-127) (min 127 s.rackError) else 0

/-- The role part of the beacon. -/
def State.beaconBody (s : State) : BeaconBody :=
  match s.node.role with
  | .slide =>
    .slide s.chA.act s.chB.act s.nodeClass (perMille s.chA s.cal.chA.pMax) (perMille s.chB s.cal.chB.pMax) s.rackShown
  | .awning =>
    .awning s.chA.act s.chA.cls (perMille s.chA s.cal.chA.pMax) s.wind.own s.wind.holdOff.isSome s.cal.windSource
  | _ =>
    .jack s.level.phase s.level.bestEffort s.level.offLevel s.level.limit s.level.contact s.chA.act s.chA.cls
      s.level.pitch s.level.roll (min s.stroke 1023)

/-- The beacon as composed now (R27). -/
def State.beacon (s : State) : Beacon :=
  { ready := s.node.mode = .run, retiring := false, roadAlarm := s.road.alarm, wake := s.bus.wakeCause,
    fault := s.faultShown, body := s.beaconBody }

/-- The retiring beacon, as composed at WATCH entry: ready set, wake cause none (R28). -/
def State.retiringBeacon (s : State) : Beacon := { s.beacon with ready := true, retiring := true, wake := .none }

/-! ### The entry test of WATCH (R61) -/

/-- The number of the first condition of R61 that fails, or none when all six hold. A line that the node itself pulls is
low before its fall is taken, so that WATCH begins without an own drive (R156). -/
def State.sleepFails (s : State) : Option Nat :=
  if s.chanIds.any fun ch => (s.chan ch).act ≠ .idle then some 1
  else if s.orders.hold.isSome then some 2
  else if s.orders.cursor.isSome then some 3
  else if s.supply.claim.isSome then some 4
  else if s.stop.sensedLow || s.pullsStop then some 5
  else if s.isJack && inSession s.level.phase then some 6
  else none

/-! ### Conditions for CLEAR (R151, R155) -/

/-- The kind is a channel fault. -/
def channelKind : FaultKind → Bool
  | .stall | .travelTime | .overcurrent | .supplyLow | .rack => true
  | _ => false

/-- The channels a listed fault's channel stands for: the pair where it is the node. -/
def NChan.chans : NChan → List ChanId
  | .a => [.a]
  | .b => [.b]
  | .node => [.a, .b]

/-- A channel fault's condition is present, on the current readings given (R86, R99, R131). -/
def State.present? (s : State) (isns : ChanId → Current) (k : FaultKind) (chan : NChan) : Bool :=
  match k with
  | .overcurrent => chan.chans.any fun ch => (isns ch).atLeast (s.cal.chan ch).trip
  | .supplyLow => s.inp.vs < s.cal.vFloor
  | .rack => s.bothKnown && s.cal.rLim ≤ s.rackSize
  | _ => false

/-- The listed channel fault is the recorded fault of no channel it names: it arose on a channel already FAULTED for another
(R86). -/
def State.arisen (s : State) (f : ActiveFault) : Bool :=
  channelKind f.kind
    && !(f.chan.chans.any fun ch => (s.chan ch).act = .faulted && ((s.chan ch).fault.map (·.1)) = some f.kind)

/-- Such faults stand until their condition passes: those that a sample of their input shows absent leave the list (R86; log
57). `sampled` picks the faults whose input has been sampled. -/
def passArisen (isns : ChanId → Current) (sampled : ActiveFault → Bool) (s : State) : State :=
  dropFaults (fun f => sampled f && s.arisen f && !s.present? isns f.kind f.chan) s

end Sys2Proof.Machine
end

