-- ==== Sys2Proof/Machine/PlanUnit.lean ====
section
/-! DEFINITION. The plan cursor at work (R62 to R66): the own part of a step, the step's end, its failure, and the loop
that follows every change of the node's own state and every report of the peer table. -/

namespace Sys2Proof.Machine

/-! ### The step and its end state -/

/-- The step the cursor stands on. -/
def State.planStep (s : State) : Option StepCal := s.orders.cursor.bind fun c => (s.planSteps c.plan)[c.step]?

/-- The task of a step's action (R62, R174). -/
def actionTask : Nat → Task
  | 1 => .level
  | 2 => .extend
  | 3 => .retract
  | _ => .stow

/-- Every expected jack shows phase STABLE, the own phase included on a jack (R64). -/
def State.jacksStable (s : State) : Bool :=
  s.cal.expJacks.all fun st =>
    if st = s.node.station then s.level.phase = .stable
    else (s.present st).any fun p => p.beacon.body.phase = some .stable

/-- A target other than the node is FRESH and shows the end state (R64). -/
def State.targetEnd (s : State) (t : Task) (st : Nat) : Bool :=
  (s.present st).any fun p => t = .level || endState t p.beacon.body.cls p.act

/-- The target stations of a step other than the node itself. -/
def State.otherTargets (s : State) (st : StepCal) : List Nat :=
  [0, 1, 2, 3, 4, 5, 8, 9, 10, 11, 12, 13, 16, 17].filter fun n => n ≠ s.node.station && inMask st.mask n

/-- The step is done in the node's view (R64). -/
def State.stepDone (s : State) : Bool :=
  match s.orders.cursor, s.planStep with
  | some c, some st =>
    let t := actionTask st.action
    (c.part = .done || c.part = .notMine) && (s.otherTargets st).all (s.targetEnd t) && (t ≠ .level || s.jacksStable)
  | _, _ => false

/-! ### The own part (R63) -/

/-- Set the own part. -/
def setPart (p : Part) (s : State) : State :=
  s.onOrders fun u => { u with cursor := u.cursor.map fun c => { c with part := p } }

/-- The part FAILED by a check: its REFUSAL names the plan's requester, the action and the step (R63). -/
def failPart (reason : Reason) (c : Cursor) (t : Task) (s : State) : State :=
  refusePress reason s.orderChan c.panel t.order (BitVec.ofNat 16 c.step) (setPart .failed s)

/-- An action the node's role does not run as a plan part (R63). -/
def State.partBarred (s : State) (t : Task) : Bool := if s.isJack then t = .extend else t = .level

/-- The part FAILED because the role does not run its action: noticed the first time this step begins, and not again at a
later repeat of it (R63; log 55). -/
def barPart (c : Cursor) (t : Task) (s : State) : State :=
  if s.orders.barred.contains (c.plan, c.step) then setPart .failed s
  else failPart .notPermitted c t (s.onOrders fun u => { u with barred := (c.plan, c.step) :: u.barred })

/-- The part is issued, or tested again (R63). -/
def tryPart (s : State) : State :=
  match s.orders.cursor, s.planStep with
  | some c, some st =>
    let t := actionTask st.action
    if s.partBarred t then barPart c t s
    else
      match s.check t .plan false c.panel with
      | none => beginOrder { task := t, origin := .plan, panel := c.panel, press := none, override := false } none
                  (setPart .running s)
      | some r => if fromInterlock r then setPart .pending s else failPart r c t s
  | _, _ => s

/-- A step begins: the own part is set (R63). The end state is looked at first: a jack that stands DEPLOYED and IDLE takes
an EXTEND step as DONE (DESIGN CHOICE, log 55). -/
def beginStep (s : State) : State :=
  match s.planStep with
  | none => s
  | some st =>
    if !inMask st.mask s.node.station then setPart .notMine s
    else if s.ownEnd (actionTask st.action) then setPart .done s
    else tryPart s

/-! ### Advancing and failing (R64 to R66) -/

/-- The outcome of a plan whose list has ended. -/
def Cursor.outcome (c : Cursor) : PlanOutcome := if c.skipped then .skipped else .complete

/-- The next step begins, or the plan ends (R64, R65). -/
def advance (s : State) : State :=
  match s.orders.cursor with
  | none => s
  | some c =>
    if c.step + 1 < (s.planSteps c.plan).length then
      beginStep (s.onOrders fun u => { u with cursor := some { c with step := c.step + 1, age := 0, part := .notMine } })
    else endPlan c.outcome s

/-- The plan's failure policy is ABORT_PLAN. -/
def State.aborts (s : State) (plan : Nat) : Bool := (s.cal.plans[plan]?).any (·.policy = 0)

/-- An own part still RUNNING is halted with reason PLAN; one PENDING is dropped with the step (R65). -/
def haltPart (s : State) : State := if (s.orders.cur.map (·.origin)) = some .plan then haltNode .plan s else s

/-- The step fails (R65). -/
def stepFail (s : State) : State :=
  match s.orders.cursor with
  | none => s
  | some c =>
    let s := haltPart s
    if s.aborts c.plan then endPlan .aborted s
    else advance (s.onOrders fun u => { u with cursor := u.cursor.map fun c => { c with skipped := true } })

/-- The own part has FAILED. -/
def State.partFailed (s : State) : Bool := s.orders.cursor.any (·.part = .failed)

/-- A PENDING part is tested again (R63). -/
def retest (s : State) : State := if s.orders.cursor.any (·.part = .pending) then settle (tryPart s) else s

/-- The cursor moves for as long as steps are done or failed; a plan has at most eight, so the fuel never runs out. -/
def planLoop : Nat → State → State
  | 0, s => s
  | n + 1, s =>
    let t := retest s
    if t.partFailed then planLoop n (settle (stepFail t))
    else if t.stepDone then planLoop n (settle (advance t))
    else t

/-- The fuel of the plan loop: eight steps and the plan's end. -/
def planFuel : Nat := 9

end Sys2Proof.Machine
end

