-- ==== Sys2Proof/Machine/Modes.lean ====
section
/-! DEFINITION. The node modes (chapters 1, 2, 12): WATCH entry, LOCKOUT, LISTEN with its readings and self-checks, RUN,
START, the wake, bus-off and rejoin, restart; and what every command of a running node is followed by (`conclude`). -/

namespace Sys2Proof.Machine

/-! ### WATCH entry (R28, R166, R167) -/

/-- A snapshot entry, its polled mark set. -/
def snapEntry (k : SnapKind) : SnapEntry := { kind := k, polled := true }

/-- The switches of a node's role, as the engine last took them (R167). -/
def State.snapSwitches (s : State) : List SnapEntry :=
  match s.node.role with
  | .jack =>
    snapEntry (.switch (.home .a) s.chA.homeClosed)
      :: (if s.cal.footFitted then [snapEntry (.switch .foot s.level.footClosed)] else [])
  | _ =>
    s.chanIds.flatMap fun ch =>
      [snapEntry (.switch (.home ch) (s.chan ch).homeClosed), snapEntry (.switch (.out ch) (s.chan ch).outClosed)]

/-- The snapshot: the entries the role fits and the wake enables name (R167). -/
def State.snapshot (s : State) : List SnapEntry :=
  (if s.cal.wakeSwitches then s.snapSwitches else [])
    ++ (if s.cal.wakeTilt && s.isJack then [snapEntry (.tilt s.level.pitch s.level.roll)] else [])
    ++ (if s.cal.wakeWind && s.node.role = .awning && s.cal.windSource && s.cal.wR ≠ 0 && s.chA.cls ≠ .stowed then
          [snapEntry (.wind s.cal.wR)] else [])

/-- The coast windows close (R72). -/
def closeCoasts (s : State) : State :=
  (s.onChA fun c => { c with coast := none }).onChB fun c => { c with coast := none }

/-- Entry to WATCH (R166). -/
def enterWatch (s : State) : State :=
  let snap := s.snapshot
  let retiring := dataBytes (encodeBeacon s.retiringBeacon)
  let s := s.onNode fun n => { n with mode := .watch }
  let s := s.onBus fun b =>
    { b.unlive .postureBeacon with beaconTimer := none, beaconSlot := .retiring retiring, standbyTimer := some 0,
                                   standby := false }
  let s := stopDwell (closeCoasts s)
  let s := s.onWind fun w => { w with window := none, highRun := 0 }
  let s := s.onOrders fun u => { u with idleReached := false }
  s.onWatch fun _ =>
    { snap := snap, firstPoll := false, poll := if snap.isEmpty then none else some 0, lowPause := false, tally := 0 }

/-- The entry test repeated once the idle time has been reached (R166). -/
def idleTest (s : State) : State :=
  if s.orders.idleReached && s.node.mode = .run && !s.offBus && s.sleepFails.isNone then enterWatch s else s

/-- What every change in LISTEN and RUN is followed by: the engines settle, and in RUN the plan moves and the idle test is
made. A plan cursor stands in RUN only. -/
def conclude (s : State) : State :=
  if s.node.mode = .run then idleTest (planLoop planFuel (settle s)) else settle s

/-! ### Reports of the peer table (R42) -/

/-- A report concerning a jack entry, or the emptying of the table: consensus and session (R106, R113, R114, R120). -/
def reportJacks (s : State) : State := if s.isJack then evalLevel (updateConsensus s) else s

/-- Any other report: a jack in STABLE tests its dwell (R120). -/
def reportOthers (s : State) : State := if s.isJack && s.level.phase = .stable then updateDwell s else s

/-- The table reports a change at a station to its readers: admission, level unit, road unit, then the engines and
the plan. -/
def peerReport (station : Nat) (s : State) : State :=
  let s := takeAdmission s
  let s := if stationRole station = .jack then reportJacks s else reportOthers s
  conclude (heldBackTest s)

/-- The table reports a stored DRAW NOTICE or a lapse (R40, R42, R93). -/
def drawReport (s : State) : State := conclude (heldBackTest (reportOthers (takeAdmission s)))

/-! ### LOCKOUT (R14) -/

/-- Every slot and the queue empty, both timers stopped (R25). -/
def Bus.emptied (b : Bus) : Bus :=
  { b with beaconTimer := none, beaconSlot := .empty, drawSlot := .empty, drawTimer := none, notices := [],
           stopCall := none, wakeCall := none, identity := none, tx := none }

/-- The channel's drive goes off; its record is held (R14, R87). -/
def Channel.driveOff (c : Channel) : Channel := { c with applied := 0, coast := none }

/-- Entry to LOCKOUT (R14, R101, R103, R154, R172). -/
def enterLockout (cause : LockoutCause) (s : State) : State :=
  let s := s.onNode fun n => { n with mode := .lockout, lockout := cause, listen := none, extended := false, wokeBy := .none }
  let s := ((s.onChA Channel.driveOff).onChB Channel.driveOff).setStep none
  let s := s.onSupply fun u => { u with claim := none }
  let s := (releaseDrive s).onWatch fun _ => .fresh
  s.onBus fun b => { b.emptied with wakeCause := .none, standbyTimer := none }

/-! ### Readings and self-checks at entry to LISTEN (R12, R74, R109, R147, R157) -/

/-- The droop cap of a supply reading (R98). -/
def Cal.droopCap (c : Cal) (vs : Nat) : Nat :=
  if c.vDroop ≤ vs then 100
  else if c.vFloor < vs then 100 * (vs - c.vFloor) / (c.vDroop - c.vFloor)
  else 0

/-- The droop cap follows the supply sense. -/
def readDroop (s : State) : State :=
  let d := s.cal.droopCap s.inp.vs
  s.onSupply fun u => { u with droop := d }

/-- SENSOR of node scope with a detail: its notice, and the fault (R12, R74). Requester 0 and order none are the model's for
CURRENT_SENSE and TEMP_SENSE (DESIGN CHOICE, log 56). -/
def sensorFault (detail : Half) (s : State) : State := noticeFault .sensor .node 0 none detail s

/-- A channel's switches as read: one that reads closed is taken as closing (R74). -/
def readSwitches (s : State) (ch : ChanId) : State :=
  let home := s.cal.homeIn s.inp ch
  let out := !s.isJack && s.cal.outIn s.inp ch
  let s := s.onChan ch fun c => { c with homeClosed := home, outClosed := out }
  if s.homeReads ch then snapHome ch s else if s.outReads ch then snapOut ch s else s

/-- The foot switch as read: a fitted one that reads closed is taken as closing (R109). One that reads open leaves the foot
state as it was kept (DESIGN CHOICE, log 60). -/
def readFoot (s : State) : State :=
  if s.isJack && s.cal.footFitted then
    let closed := s.inp.foot
    let s := s.onLevel fun l => { l with footClosed := closed }
    if closed then footContact s else s
  else s

/-- The STOP line as found: a low line counts as a fall (R147). -/
def readStop (s : State) : State :=
  if s.lineLow then stopFall s else s.onStop fun u => { u with sensedLow := false }

/-- The PARK line as found: the first level is taken as it is; a change is a release or a re-assertion (R157). -/
def readPark (s : State) : State :=
  match s.road.park, s.inp.parkAsserted with
  | none, level => updateAlarm (s.onRoad fun r => { r with park := some level })
  | some true, false => roadRelease s
  | some false, true => parkAsserted s
  | some _, _ => s

/-- The current sense range check of a channel (R12). -/
def checkSense (s : State) (ch : ChanId) : State :=
  if s.inp.isns ch = .fullScale then sensorFault detailCurrentSense s else s

/-- The current sense range checks; CURRENT_SENSE ends where none fails (R12, R151). -/
def checkSenses (s : State) : State :=
  if s.chanIds.any fun ch => s.inp.isns ch = .fullScale then s.chanIds.foldl checkSense s
  else dropSensor detailCurrentSense s

/-- The switch pair check of a channel (R12). -/
def checkPair (s : State) (ch : ChanId) : State := if s.pairClosed ch then sensorFault detailSwitchPair s else s

/-- The switch pair checks; SWITCH_PAIR ends where no pair reads closed (R12, R74). -/
def checkPairs (s : State) : State :=
  if s.anyPair then s.chanIds.foldl checkPair s else dropSensor detailSwitchPair s

/-- The temperature sense check, and OVERHEAT on a sound sense (R12, R101, R102). HOT is left to the next reading of R100
(DESIGN CHOICE, log 61). -/
def checkTemp (s : State) : State :=
  if !tempSound s.inp.temp then sensorFault detailTempSense s
  else
    let s := dropSensor detailTempSense s
    if 150 ≤ s.inp.temp then enterLockout .overheat s else s

/-- The readings and checks of an entry to LISTEN, in the model's order. -/
def listenReadings (s : State) : State :=
  let s := passArisen s.inp.isns (fun _ => true) (s.chanIds.foldl readSwitches (readDroop s))
  checkTemp (checkPairs (checkSenses (readPark (readStop (readFoot s)))))

/-- The beacon slot at an entry to LISTEN: a beacon falls due; a retiring one is discarded (R26, R170). -/
def Bus.startBeacons (cause : WakeCause) (b : Bus) : Bus :=
  let b := if b.beaconSlot = .pending then b else b.unlive .postureBeacon
  { b with wakeCause := cause, beaconTimer := some 0, beaconSlot := .pending, standby := false, standbyTimer := none }

/-- A jack's inclinometer check takes in the first four reading intervals of the LISTEN (R12). -/
def startTiltCheck (s : State) : State :=
  if s.isJack then s.onLevel fun l => { l with checkLeft := Config.tiltChecks } else s

/-- Entry to LISTEN (R11, R12, R26, R124, R139). -/
def enterListen (cause : WakeCause) (inp : Inputs) (s : State) : State :=
  let s := s.onNode fun n =>
    { n with mode := .listen, listen := some 0, extended := false, idleFailedA := false, idleFailedB := false }
  let s := (s.onInp fun _ => inp).onBus (Bus.startBeacons cause)
  let s := s.onOrders fun u => { u with idleReached := false }
  let s := if s.node.role = .awning then
      s.onWind fun w => { w with window := some 0, pulses := 0, own := 255 }
    else s
  listenReadings (startTiltCheck (stopDwell s))

/-! ### RUN (R13, R172) -/

/-- In RUN a closed pair is the fault SWITCH_PAIR (R74). Pairs that have closed within LISTEN raise it once for the node here,
and not where it is listed already (DESIGN CHOICE, log 23). -/
def pairAtRun (s : State) : State :=
  if s.anyPair && !s.hasSensor detailSwitchPair then sensorFault detailSwitchPair s else s

/-- A jack woken on TILT takes its trim dwell as complete, if its conditions hold (R120, R172). -/
def trimAtRun (woke : WakeCause) (s : State) : State :=
  if s.isJack && woke = .tilt && s.level.phase = .stable then
    if s.dwellHolds then trimComplete s else updateDwell s
  else s

/-- Entry to RUN (R13, R67, R142, R160 to R163, R172). -/
def enterRun (s : State) : State :=
  let woke := s.node.wokeBy
  let s := s.onNode fun n => { n with mode := .run, listen := none, extended := false, wokeBy := .none }
  let s := s.onOrders fun u => { u with idle := 0, idleReached := false }
  conclude (trimAtRun woke (stowAtRun (windTest (pairAtRun s))))

/-! ### Reset and START (R1 to R3) -/

/-- Programming that a reset stops: each of its bytes is found written or not, as the free values say (R7). -/
def stopProgramming (s : State) : State :=
  match s.store.prog with
  | none => s.onStore fun st => { st with held := [] }
  | some (a, bytes) =>
    let free := s.free
    let put (st : Store) (i : Nat) : Store :=
      if Config.freeProgrammed (free + i) then st.program (a + i) [bytes.getD i unwrittenByte] else st
    (s.onStore fun st =>
      { ([0, 1, 2, 3].filter (· < bytes.length)).foldl put st with prog := none, held := [] }).setFree (free + 4)

/-- Every block but the store at its power-on state (R1). -/
def freshBlocks (s : State) : State :=
  let s := (s.onBus fun _ => .fresh).onPeers fun _ => []
  let s := (s.onOrders fun _ => .fresh).onChA fun _ => .fresh
  let s := ((s.onChB fun _ => .fresh).setStep none).onSupply fun _ => .fresh
  let s := ((s.onLevel fun _ => .fresh).onSquare fun _ => .fresh).onWind fun _ => .fresh
  ((s.onStop fun _ => .fresh).onRoad fun _ => .fresh).onWatch fun _ => .fresh

/-- The node's mode work is abandoned: START, with no window and no lockout (R1). -/
def Node.restarted (n : Node) : Node :=
  { n with mode := .start, lockout := .none, listen := none, extended := false, idleFailedA := false,
           idleFailedB := false, wokeBy := .none }

/-- Held in reset: drives off, STOP drive released, nothing sent or taken (R1). -/
def holdReset (s : State) : State := (freshBlocks (stopProgramming s)).onNode Node.restarted

/-- The record decision of a LOCKED record: the CRC check, the validity check, LISTEN with the record read (R3). -/
def lockedDecision (inp : Inputs) (s : State) : State :=
  if !s.store.crcOk then enterLockout .crc s
  else if !recordValid s.store s.node.role s.node.station then enterLockout .field s
  else
    let s := s.setCal (readCal s.store)
    let a := s.cal.chA.inhibit
    let b := if s.isSlide then s.cal.chB.inhibit else .none
    enterListen s.node.startCause inp (s.onRoad fun r => { r with inhibitA := a, inhibitB := b })

/-- The start cause is recorded; a START after a lock keeps the one it finds (R1). -/
def Node.recordCause (keep : Bool) (n : Node) : Node :=
  { n with startCause := if keep then n.startCause else if n.supplyUp then .powerOn else .resetPin, supplyUp := false }

/-- Entry to START, and its decision: the straps, then the record (R1, R2, R3). The controller joins as START ends. -/
def enterStart (keep : Bool) (inp : Inputs) (s : State) : State :=
  let s := ((freshBlocks s).onNode Node.restarted).onNode (Node.recordCause keep)
  let s := (s.onInp fun _ => inp).onBus fun b => { b with err := .active }
  let straps := decodeStraps inp
  let s := s.onNode fun n => { n with role := straps.1, station := straps.2.getD Config.noStation }
  if straps.1 = .invalid then enterLockout .role s
  else if straps.2.isNone then enterLockout .index s
  else if s.store.state = .locked then lockedDecision inp s
  else s.onNode fun n => { n with mode := .setup }

/-! ### What restart, wake, bus-off and rejoin share -/

/-- The order's counters of a channel at rest return to 0 (R87). -/
def Channel.blankOrder (c : Channel) : Channel :=
  if c.carries then c else { c with acc := 0, wall := 0, retries := 0, stallNoticed := false, roleWait := false }

/-- The order's counters of both channels return to 0 (R87). -/
def blankOrders (s : State) : State := (s.onChA Channel.blankOrder).onChB Channel.blankOrder

/-- The level unit's timers stop and its re-lift count returns to 0 (R124). -/
def levelTimers (s : State) : State :=
  s.onLevel fun l =>
    { l with footing := none, missing := none, settle := none, dwell := none, relift := 0 }

/-- The press list is emptied (R47). -/
def emptyPresses (s : State) : State := s.onOrders fun u => { u with presses := [] }

/-- The table is cleared, and its readers are told (R43). -/
def emptyTable (s : State) : State := reportJacks (takeAdmission (clearPeers s))

/-! ### Bus-off and rejoin (R21, R22) -/

/-- The controller rejoins: both counts 0, ACTIVE (R22). -/
def Bus.joined (b : Bus) : Bus :=
  { b with err := .active, txErrors := 0, rxErrors := 0, offTimer := none, awaitIdle := false }

/-- The cursor clears with no notice; its press becomes SPENT (R21, R62). -/
def dropCursor (s : State) : State :=
  match s.orders.cursor with
  | none => s
  | some c => s.onOrders fun u => { u with cursor := none, presses := spendKey c.key u.presses }

/-- Bus-off of a node in RUN or LISTEN: the halt, the claim dropped, the window stopped, the wake cause none (R21, R172). -/
def busOffActive (s : State) : State :=
  let s := levelTimers (blankOrders (dropCursor (haltNode .busLost (dropClaim s))))
  let s := s.onBus fun b => { b with wakeCause := .none }
  (s.onNode fun n => { n with listen := none, extended := false, wokeBy := .none }).onSupply fun u => { u with low := none }

/-- The error state becomes OFF (R21): every pending frame is discarded; in WATCH the transceiver goes to standby and
the controller stays OFF until the wake. In WATCH the channels' counters stand until the wake, which clears them (R87;
DESIGN CHOICE, log 70), and a jack's re-lift count stands as it is (R124; DESIGN CHOICE, log 74). -/
def goOff (s : State) : State :=
  let s := if s.active then busOffActive s else s
  let watch := decide (s.node.mode = .watch)
  s.onBus fun b =>
    { b.emptied with err := .off, offTimer := if watch then none else some 0, awaitIdle := false,
                     standby := watch || b.standby, standbyTimer := none }

/-- Rejoin from RUN or LISTEN: the node enters LISTEN as on a wake (R22, R67). -/
def rejoinListen (inp : Inputs) (s : State) : State :=
  let s := endQuiet (emptyPresses (emptyTable s))
  conclude (enterListen .busRecovery inp s)

/-! ### Restart (R16) -/

/-- A resting channel becomes IDLE without fault (R87). -/
def Channel.idled (c : Channel) : Channel :=
  if c.act = .halted || c.act = .faulted then { c with act := .idle, fault := none } else c

/-- The faults an accepted restart takes off the list (R156). -/
def restartDrops (f : ActiveFault) : Bool :=
  channelKind f.kind || f.kind = .duplicate || f.kind = .holdConflict || f.kind = .peerLost || f.kind = .tooSteep

/-- An accepted RESTART REQUEST (R16, R43, R67, R87, R103, R124, R138, R156, R165, R172). -/
def acceptRestart (inp : Inputs) (s : State) : State :=
  let s := endPlan .abandoned (haltNode .restart s)
  let s := dropFaults restartDrops ((s.onChA Channel.idled).onChB Channel.idled)
  let s := levelTimers (blankOrders s)
  let s := endQuiet (emptyPresses s)
  let s := (releaseDrive (emptyTable s)).onWatch fun _ => .fresh
  let s := (s.onNode fun n => { n with wokeBy := .none }).onSupply fun u => { u with low := none }
  conclude (enterListen .none inp s)

/-! ### The wake (R171) -/

/-- The wind unit at a wake: on WIND the poll stands for a window at or above W_r (R146, R172). -/
def wakeWind (cause : WakeCause) (pollWind : Nat) (s : State) : State :=
  if cause = .wind then
    s.onWind fun w => { w with highRun := 3, spent := false, holdOff := some 0, runWind := pollWind }
  else s

/-- The controller at a wake: one left OFF rejoins; the node's own causes place a WAKE CALL (R31, R171). One that is still
pending is kept with its cause (DESIGN CHOICE, log 65). -/
def Bus.woken (cause : WakeCause) (b : Bus) : Bus :=
  let b := if b.err = .off then b.joined else b
  { b with wakeCall := if cause = .bus then b.wakeCall else b.wakeCall <|> some cause }

/-- A wake (R156, R171). -/
def wake (cause : WakeCause) (pollWind : Nat) (inp : Inputs) (s : State) : State :=
  let s := (releaseDrive s).onWatch fun _ => .fresh
  let s := (s.onNode fun n => { n with wokeBy := cause }).onBus (Bus.woken cause)
  let s := wakeWind cause pollWind (blankOrders s)
  let s := endQuiet (emptyPresses (emptyTable s))
  conclude (enterListen cause inp s)

/-! ### Receiving a frame (R20, R23, R24) -/

/-- The error state that the counts give; OFF stays until the rejoin (R20). -/
def Bus.errState (b : Bus) : Bus :=
  if b.err = .off || b.err = .notJoined then b
  else { b with err := if 128 ≤ b.txErrors || 128 ≤ b.rxErrors then .passive else .active }

/-- A frame has been received whole: the receive error count falls by 1 (R20). -/
def receivedWhole (s : State) : State :=
  s.onBus fun b => Bus.errState { b with rxErrors := b.rxErrors - 1 }

/-- A frame reaches the node. In START it is not received; in WATCH after standby it wakes the node and before standby
it is not taken; while the controller is OFF it is not delivered; a source station that R23 bars fails acceptance; during
programming it waits (R7); else `take` is what its block does. -/
def receive (frame : Instr) (k : Kind) (source : Nat) (take : State → State) (s : State) : State :=
  if s.node.mode = .start then s
  else if s.node.mode = .watch && s.bus.standby then wake .bus 0 s.inp s
  else if s.offBus || s.bus.err = .notJoined then s
  else
    let s := receivedWhole s
    if s.node.mode = .watch || !sourceAllowed k source then s
    else if s.store.prog.isSome then s.onStore fun st => { st with held := st.held ++ [frame] }
    else take s

end Sys2Proof.Machine
end

