-- ==== Sys2Proof/Machine/Power.lean ====
section
/-! DEFINITION. Meanings of the reset and node mode commands: POWER_ON, SUPPLY_BELOW_RANGE, NRST_LOW, NRST_HIGH,
RESTART_REQUEST, IDENTITY_QUERY, IDLE_CURRENT_FAIL, LISTEN_WINDOW_END (chapter 1). -/

namespace Sys2Proof.Machine

/-- The outcome of a command: the manual gives every one an effect, so the next state always exists. -/
abbrev Result := Host.Outcome State Fault Refusal

/-- VBAT rises into its range: START, unless NRST still holds the node (R1). -/
def execPowerOn (inp : Inputs) (s : State) : Result :=
  let s := (holdReset s).onNode fun n => { n with vbatLow := false, supplyUp := true }
  .next (if s.node.nrstLow then s else enterStart false inp s)

/-- VBAT falls below its range: held in reset (R1). -/
def execSupplyBelowRange (s : State) : Result :=
  .next ((holdReset s).onNode fun n => { n with vbatLow := true })

/-- NRST goes low: held in reset (R1). -/
def execNrstLow (s : State) : Result := .next ((holdReset s).onNode fun n => { n with nrstLow := true })

/-- NRST returns high: START, unless power-on has yet to complete (R1). An NRST that was not low has no effect. -/
def execNrstHigh (inp : Inputs) (s : State) : Result :=
  if s.node.nrstLow then
    let s := s.onNode fun n => { n with nrstLow := false }
    .next (if s.node.vbatLow then s else enterStart false inp s)
  else .next s

/-- A RESTART REQUEST that names the node: accepted in RUN and LISTEN, refused in SETUP, ignored in LOCKOUT (R16). The
refusal's detail is not given (log 13), and its channel node is the model's (DESIGN CHOICE, log 56). -/
def takeRestart (source : Nat) (target : Byte) (inp : Inputs) (s : State) : State :=
  if !byteNames target s.node.station then s
  else if s.active then acceptRestart inp s
  else if s.node.mode = .setup then
    notice (.refusal .notPermitted) .node source none s.freeDetail (drawFree s)
  else s

/-- RESTART REQUEST (R16). -/
def execRestartRequest (source : Nat) (target : Byte) (inp : Inputs) (s : State) : Result :=
  .next (receive (.restartRequest source target inp) .restartRequest source (takeRestart source target inp) s)

/-- An IDENTITY QUERY that names the node composes a reply, unless one is pending (R15, R32). -/
def takeQuery (target : Byte) (s : State) : State :=
  if byteNames target s.node.station then
    let reply := identityReply s
    s.onBus fun b => { b with identity := b.identity <|> some reply }
  else s

/-- IDENTITY QUERY (R15). -/
def execIdentityQuery (source : Nat) (target : Byte) (s : State) : Result :=
  .next (receive (.identityQuery source target) .identityQuery source (takeQuery target) s)

/-- The idle-current check of this channel has failed in this LISTEN. -/
def Node.idleFailed (n : Node) : ChanId → Bool
  | .a => n.idleFailedA
  | .b => n.idleFailedB

/-- Record the failure of a channel's idle-current check. -/
def Node.failIdle (ch : ChanId) (n : Node) : Node :=
  match ch with
  | .a => { n with idleFailedA := true }
  | .b => { n with idleFailedB := true }

/-- The idle-current check fails, at most once for each channel in each LISTEN: OVERCURRENT, detail DRIVER (R12). -/
def execIdleCurrentFail (ch : ChanId) (s : State) : Result :=
  if s.node.mode = .listen && s.hasChan ch && !s.node.idleFailed ch then
    .next (conclude (chanFault ch .overcurrent detailDriver (s.onNode (Node.failIdle ch))))
  else .next s

/-- The LISTEN window ends: RUN, or the extension (R11). -/
def execListenWindowEnd (s : State) : Result :=
  if s.node.mode = .listen && s.node.listen.isSome then
    .next (if s.cal.vFloor ≤ s.inp.vs then enterRun s
      else s.onNode fun n => { n with listen := none, extended := true })
  else .next s

end Sys2Proof.Machine
end

