-- ==== Sys2Proof/Machine/Calibration.lean ====
section
/-! DEFINITION. Meanings of the calibration store's commands: CALIBRATION_WRITE, CALIBRATION_PROGRAMMING_DONE,
CALIBRATION_LOCK (R5 to R10). -/

namespace Sys2Proof.Machine

/-- A refusal of a calibration frame (R6, R9). That CRC_MISMATCH, too, names channel node is the model's (DESIGN CHOICE,
log 56). -/
def refuseCal (reason : Reason) (source : Nat) (detail : Half) (s : State) : State :=
  notice (.refusal reason) .node source none detail s

/-- The data bytes of a write. -/
def calBytes (w : CalWrite) : List Byte := [w.d0, w.d1, w.d2, w.d3]

/-- The lowest byte of the four from `a` on that is already written. -/
def Store.firstWritten (st : Store) (a : Nat) : Option Nat := [a, a + 1, a + 2, a + 3].find? st.written

/-- A write in SETUP with CAL high (R6): programming begins, or the write is refused. -/
def setupWrite (source : Nat) (w : CalWrite) (s : State) : State :=
  let a := w.offset.toNat
  if 253 ≤ a then refuseCal .notPermitted source (BitVec.ofNat 16 a) s
  else
    match s.store.firstWritten a with
    | some n => refuseCal .alreadyWritten source (BitVec.ofNat 16 n) s
    | none => s.onStore fun st => { st with prog := some (a, calBytes w) }

/-- A CALIBRATION WRITE to the node's own station, by mode and CAL strap (R6). -/
def takeWrite (source : Nat) (w : CalWrite) (cal : Bool) (s : State) : State :=
  if w.target.toNat ≠ s.node.station then s
  else if s.node.mode = .setup && cal then setupWrite source w s
  else if s.node.mode = .setup || s.active then refuseCal .notPermitted source (BitVec.ofNat 16 w.offset.toNat) s
  else s

/-- CALIBRATION WRITE (R6). -/
def execCalibrationWrite (source : Nat) (w : CalWrite) (cal : Bool) (s : State) : Result :=
  .next (receive (.calibrationWrite source w cal) .calibrationWrite source (takeWrite source w cal) s)

/-- A lock in SETUP with CAL high (R9): BLANK and a mismatch are refused; a match locks, and START begins. -/
def setupLock (source : Nat) (inp : Inputs) (s : State) : State :=
  if s.store.state = .opened && s.store.crcOk then enterStart true inp (s.onStore fun st => { st with locked := true })
  else refuseCal .crcMismatch source (BitVec.ofNat 16 (min s.store.unwritten 255)) s

/-- A CALIBRATION LOCK to the node's own station, by mode and CAL strap (R9). The detail of its NOT_PERMITTED is not
given (log 13). -/
def takeLock (source : Nat) (target : Byte) (inp : Inputs) (s : State) : State :=
  if target.toNat ≠ s.node.station then s
  else if s.node.mode = .setup && inp.cal then setupLock source inp s
  else if s.node.mode = .setup || s.active then refuseCal .notPermitted source s.freeDetail (drawFree s)
  else s

/-- CALIBRATION LOCK (R9). -/
def execCalibrationLock (source : Nat) (target : Byte) (inp : Inputs) (s : State) : Result :=
  .next (receive (.calibrationLock source target inp) .calibrationLock source (takeLock source target inp) s)

/-- A frame that waited for the end of programming, taken in SETUP; the kinds SETUP ignores have no effect (R10). -/
def takeHeldFrame (f : Instr) (s : State) : State :=
  match f with
  | .identityQuery _ target => takeQuery target s
  | .calibrationWrite source w cal => takeWrite source w cal s
  | .calibrationLock source target inp => takeLock source target inp s
  | .restartRequest source target inp => takeRestart source target inp s
  | _ => s

/-- The held frames are taken in order while the node stays in SETUP; a write among them begins a new programming,
and the rest wait on (R7). They are taken so while the controller is OFF too (DESIGN CHOICE, log 66). -/
def takeHeld : List Instr → State → State
  | [], s => s
  | f :: rest, s =>
    if s.node.mode ≠ .setup then s
    else if s.store.prog.isSome then s.onStore fun st => { st with held := f :: rest }
    else takeHeld rest (takeHeldFrame f s)

/-- The last byte is marked; frames that arrived during programming are taken (R6, R7). -/
def execCalibrationProgrammingDone (s : State) : Result :=
  match s.store.prog with
  | none => .next s
  | some (a, bytes) =>
    let held := s.store.held
    .next (takeHeld held (s.onStore fun st => { st.program a bytes with prog := none, held := [] }))

end Sys2Proof.Machine
end

