-- ==== Sys2Proof/Machine/Peers.lean ====
section
/-! DEFINITION. Meanings of the peer table's commands: POSTURE_BEACON, DRAW_NOTICE, BEACON_AGE_STALE, BEACON_AGE_LOST,
CLAIM_LAPSE (chapter 3), with DUPLICATE (R17), the pass (R95) and the step failed by a beacon (R65). -/

namespace Sys2Proof.Machine

/-- DUPLICATE goes from clear to set: the node is halted, the own part of a plan has FAILED and so fails its step, and one
notice is sent (R17, R65, R67, R87, R124). The notice's detail is not given (log 13); requester 0 and order none are the
model's (DESIGN CHOICE, log 56). -/
def setDuplicate (s : State) : State :=
  if s.hasFault .duplicate then s
  else
    let s := setPart .failed (levelTimers (blankOrders (haltNode .duplicate s)))
    let d := s.freeDetail
    conclude (noticeFault .duplicate .node 0 none d (drawFree s))

/-- The node waits: it holds a claim, a channel is WAITING and none is DRIVING (R95). -/
def State.waits (s : State) : Bool :=
  s.supply.claim.isSome && !s.anyDriving && s.chanIds.any fun ch => (s.chan ch).act = .waiting

/-- A pass is counted, up to 255 (R95). -/
def countPass (p : Peer) (s : State) : State :=
  if p.passes && s.waits then s.onSupply fun u => { u with passes := min 255 (u.passes + 1) } else s

/-- A place in the plan: which plan and step the cursor stands on. -/
def State.place (s : State) : Option (Nat × Nat) := s.orders.cursor.map fun c => (c.plan, c.step)

/-- The current step has this station among its targets. -/
def State.targets (s : State) (st : Nat) : Bool := s.planStep.any fun p => inMask p.mask st

/-- A beacon of a target that shows HALTED or FAULTED fails the step, unless the beacon's own report has moved the cursor
on (R65). One that still shows a rest from before the step's start, which R65 both counts by its arrival and calls not
counted, fails the step as every other does (DESIGN CHOICE, log 75). -/
def beaconFails (before : Option (Nat × Nat)) (p : Peer) (s : State) : State :=
  if (p.act = .halted || p.act = .faulted) && s.targets p.station && s.place = before then conclude (stepFail s) else s

/-- A beacon that has passed the tests is applied and reported (R35, R42). -/
def beaconArrives (source : Nat) (b : Beacon) (s : State) : State :=
  let p := arrival (findPeer s.peers source) source b
  let before := s.place
  beaconFails before p (peerReport source (countPass p (applyBeacon source b s)))

/-- A POSTURE BEACON in LISTEN or RUN (R17, R34). -/
def takeBeacon (source : Nat) (d : Data8) (s : State) : State :=
  if !s.active then s
  else if source = s.node.station then setDuplicate s
  else
    match decodeBeacon source d with
    | none => s
    | some b => beaconArrives source b s

/-- POSTURE BEACON (R34, R35). -/
def execPostureBeacon (source : Nat) (d : Data8) (s : State) : Result :=
  .next (receive (.postureBeacon source d) .postureBeacon source (takeBeacon source d) s)

/-- A DRAW NOTICE as the claim record it stores: `none` where its state or base class is undefined, `some none` for a
RELEASE (R39). A yield count byte above 3 is stored as it is (DESIGN CHOICE, log 54). -/
def decodeDraw (r : DrawReq) : Option (Option ClaimRec) :=
  if 1 < r.state.toNat ∨ 3 < r.baseClass.toNat then none
  else if r.state = 1 then some none
  else some (some { amount := r.claim.toNat, baseClass := r.baseClass.toNat, yield := r.yield.toNat, age := 0 })

/-- A DRAW NOTICE in LISTEN or RUN: stored for a station with an entry, and reported (R39, R42). -/
def takeDraw (source : Nat) (r : DrawReq) (s : State) : State :=
  if !s.active || source = s.node.station || (findPeer s.peers source).isNone then s
  else
    match decodeDraw r with
    | none => s
    | some c => drawReport (applyDraw source c s)

/-- DRAW NOTICE (R39). -/
def execDrawNotice (source : Nat) (r : DrawReq) (s : State) : Result :=
  .next (receive (.drawNotice source r) .drawNotice source (takeDraw source r) s)

/-- A FRESH entry's age has passed 250 ms (R37). -/
def Peer.turnsStale (p : Peer) : Bool := p.fresh = .fresh && Config.freshMs < p.age

/-- A STALE entry's age has passed 1000 ms (R37). -/
def Peer.turnsLost (p : Peer) : Bool := p.fresh = .stale && Config.staleMs < p.age

/-- The entry's freshness changes (R37). -/
def setFresh (st : Nat) (f : Freshness) (s : State) : State := s.onPeers (mapPeer st fun p => { p with fresh := f })

/-- A FRESH entry's age passes 250 ms: STALE, and reported (R37). Where an arrival is taken first the age is 0, and the entry
stays FRESH. -/
def execBeaconAgeStale (station : Nat) (s : State) : Result :=
  if s.active && (findPeer s.peers station).any Peer.turnsStale then
    .next (peerReport station (setFresh station .stale s))
  else .next s

/-- A STALE entry's age passes 1000 ms: LOST, and reported (R37). Where an arrival is taken first the entry is FRESH, and stays
so. -/
def execBeaconAgeLost (station : Nat) (s : State) : Result :=
  if s.active && (findPeer s.peers station).any Peer.turnsLost then
    .next (peerReport station (setFresh station .lost s))
  else .next s

/-- The entry's claim record has passed 250 ms, and counts no more (R40). -/
def Peer.claimOver (p : Peer) : Bool := p.claim.any fun c => !c.counts

/-- A claim record lapses: it counts no more, and the lapse is reported (R40, R93). Where a CLAIM is taken first its age is 0,
and no lapse takes place. -/
def execClaimLapse (station : Nat) (s : State) : Result :=
  if s.active && (findPeer s.peers station).any Peer.claimOver then .next (drawReport s) else .next s

end Sys2Proof.Machine
end

