-- ==== Sys2Proof/Machine/Motion.lean ====
section
/-! DEFINITION. Meanings of the MOTION REQUESTs and of the order unit's timers (chapter 4): EXTEND, RETRACT, LEVEL, STOW,
HALT, CLEAR, SLEEP, RUN_PLAN, PRESS_ENTRY_LAPSE, HOLD_EXPIRY, CONFLICT_QUIET_END, REVERSAL_DWELL_END, STEP_TIMEOUT. -/

namespace Sys2Proof.Machine

/-- The request is one the order unit takes in RUN: it names the node (R46), and check 1 does not ignore it (R48). -/
def State.hears (s : State) (r : MotionReq) : Bool := s.node.mode = .run && r.names s.node.role s.node.station

/-- A taken press, and what follows it. -/
def pressed (o : Order) (r : MotionReq) (s : State) : State :=
  if s.hears r then conclude (takePress o r s) else s

/-- EXTEND (R46 to R55). -/
def execExtend (r : MotionReq) (s : State) : Result :=
  .next (receive (.extend r) .motionRequest r.source (pressed .extend r) s)

/-- RETRACT, with the override flag read on a HELD press (R58). -/
def execRetract (r : MotionReq) (s : State) : Result :=
  .next (receive (.retract r) .motionRequest r.source (pressed .retract r) s)

/-- LEVEL: defined for a jack only (R46, R111). -/
def execLevel (r : MotionReq) (s : State) : Result :=
  .next (receive (.level r) .motionRequest r.source (fun s => if s.isJack then pressed .level r s else s) s)

/-- STOW: a latched retract (R46). -/
def execStow (r : MotionReq) (s : State) : Result :=
  .next (receive (.stow r) .motionRequest r.source (pressed .stow r) s)

/-- HALT, CLEAR and SLEEP: test 1 of R48 and check 2 of R49, then the order's own act. -/
def ordered (o : Order) (r : MotionReq) (act : State → State) (s : State) : State :=
  if s.hears r then
    let s := restartIdle s
    conclude (if s.hasFault .duplicate then refusePress .duplicate .node r.source o (tokenDetail r.token) s else act s)
  else s

/-- HALT (R59). -/
def execHalt (r : MotionReq) (s : State) : Result :=
  .next (receive (.halt r) .motionRequest r.source (ordered .halt r (haltAll .halt)) s)

/-! ### CLEAR (R155) -/

/-- A condition found present: the channel that the refusal names, and the kind. -/
abbrev Found := Option (NChan × FaultKind)

/-- Step 1 on one channel: its recorded fault is tested; an absent one clears, a present one is remembered. -/
def clearChan (isns : ChanId → Current) (acc : State × Found) (ch : ChanId) : State × Found :=
  let (s, found) := acc
  let c := s.chan ch
  match c.fault with
  | some (k, _) =>
    if c.act = .faulted then
      if s.present? isns k (nchanOf ch) then (s, found <|> some (nchanOf ch, k))
      else
        ((dropFaults (fun f => f.kind = k && f.chan = nchanOf ch) s).onChan ch fun c =>
          { c with act := .idle, fault := none }, found)
    else (s, found)
  | none => (s, found)

/-- The listed fault is a channel fault of a ram that is not FAULTED. -/
def State.looseFault (s : State) (f : ActiveFault) : Bool :=
  channelKind f.kind && !(f.chan.chans.any fun ch => (s.chan ch).act = .faulted)

/-- Step 2: listed channel faults of channels not FAULTED. One that arose on a channel still FAULTED leaves with its condition
(R86), and is no ground to refuse. Of several found present the oldest in the list is named (DESIGN CHOICE, log 67). -/
def clearListed (isns : ChanId → Current) (acc : State × Found) : State × Found :=
  let (s, found) := acc
  let stays := s.stop.faults.filter fun f => s.looseFault f && s.present? isns f.kind f.chan
  (passArisen isns (fun _ => true) s,
    found <|> stays.head?.map fun f => (f.chan, f.kind))

/-- Step 4: a LATCHED drive is released where its first reason's condition is absent. -/
def clearDrive (isns : ChanId → Current) (acc : State × Found) : State × Found :=
  let (s, found) := acc
  match s.stop.drive, s.stop.first with
  | .latched, some f =>
    if (if channelKind f.kind then s.present? isns f.kind f.chan else s.hasFault f.kind) then
      (s, found <|> some (.node, f.kind))
    else (releaseDrive s, found)
  | _, _ => acc

/-- A HALTED channel becomes IDLE (R60). -/
def Channel.unhalt (c : Channel) : Channel := if c.act = .halted then { c with act := .idle } else c

/-- An accepted CLEAR, with the current sense as it stands (R60, R155). -/
def clearAll (panel : Nat) (isns : ChanId → Current) (s : State) : State :=
  let s := s.onInp fun i => { i with isnsA := isns .a, isnsB := isns .b }
  let acc := clearListed isns (s.chanIds.foldl (clearChan isns) (s, none))
  let acc := clearDrive isns (dropKind .tooSteep (dropKind .peerLost acc.1), acc.2)
  let s := (acc.1.onChA Channel.unhalt).onChB Channel.unhalt
  match acc.2 with
  | none => s
  | some (chan, k) => refusePress .conditionPresent chan panel .clear (BitVec.ofNat 16 (faultCode k)) s

/-- CLEAR, with the current sense readings at its arrival (R155). -/
def execClear (r : MotionReq) (isnsA isnsB : Current) (s : State) : Result :=
  let isns (ch : ChanId) : Current := match ch with | .a => isnsA | .b => isnsB
  .next (receive (.clear r isnsA isnsB) .motionRequest r.source (ordered .clear r (clearAll r.source isns)) s)

/-! ### SLEEP and RUN_PLAN -/

/-- A SLEEP is tested, and the node enters WATCH or refuses with the first condition that failed (R61, R166). -/
def sleepNow (panel : Nat) (s : State) : State :=
  match s.sleepFails with
  | none => enterWatch s
  | some n => refusePress .busy .node panel .sleep (BitVec.ofNat 16 n) s

/-- SLEEP (R61). -/
def execSleep (r : MotionReq) (s : State) : Result :=
  .next (receive (.sleep r) .motionRequest r.source (ordered .sleep r (sleepNow r.source)) s)

/-- The tests of a new RUN_PLAN press (R62). -/
def State.planRefusal (s : State) (plan : Nat) : Option Reason :=
  if s.hasFault .duplicate then some .duplicate
  else if s.stop.sensedLow then some .stopActive
  else if s.planSteps plan = [] then some .notPermitted
  else if s.orders.cursor.isSome then some .busy
  else none

/-- The cursor of an accepted RUN_PLAN, and its first step (R62). On a slide it leaves PEER_LOST listed: RUN_PLAN is no press
on the slide (DEDUCED, log 35). -/
def startPlan (plan : Nat) (r : MotionReq) (s : State) : State :=
  beginStep (s.onOrders fun u =>
    { u with
      presses := enterPress (r.key .runPlan) false true u.presses
      cursor := some { plan := plan, step := 0, age := 0, part := .notMine, panel := r.source, token := r.token,
                       skipped := false } })

/-- A taken RUN_PLAN in RUN (R47, R62). -/
def takePlan (r : MotionReq) (s : State) : State :=
  let s := restartIdle s
  match findPress (r.key .runPlan) s.orders.presses with
  | some p => repeatPress p false s
  | none =>
    let plan := r.argument.toNat
    match s.planRefusal plan with
    | some reason =>
      enterSpent (r.key .runPlan) false (refusePress reason .node r.source .runPlan (BitVec.ofNat 16 plan) s)
    | none => startPlan plan r s

/-- RUN_PLAN: taken with target ALL and a plan number of 0 to 3 (R46, R62). -/
def execRunPlan (r : MotionReq) (s : State) : Result :=
  .next (receive (.runPlan r) .motionRequest r.source
    (fun s => if s.hears r && r.toAll && r.argument.toNat ≤ 3 then conclude (takePlan r s) else s) s)

/-! ### Timers of the order unit -/

/-- The entry's last arrival is more than 250 ms old (R47). -/
def Press.overdue (p : Press) : Bool := Config.freshMs < p.age

/-- PRESS_ENTRY_LAPSE (R47). One taken after a repeat has set the last arrival to the present finds the entry young, and it
stays. -/
def execPressEntryLapse (key : PressKey) (s : State) : Result :=
  if s.active then
    .next (s.onOrders fun u => { u with presses := u.presses.filter fun p => p.key ≠ key || !p.overdue })
  else .next s

/-- The hold's last renewal is more than 250 ms old (R53). -/
def State.holdOverdue (s : State) : Bool := s.orders.hold.any (Config.freshMs < ·.age)

/-- The hold expires: the order stops, the entry goes, the claim is released (R53). -/
def expireHold (s : State) : State :=
  match s.orders.hold with
  | none => s
  | some h =>
    let key : PressKey := { panel := h.panel, order := h.order, token := h.token }
    let s := s.onOrders fun u => { u with presses := u.presses.filter fun p => p.key ≠ key }
    conclude (finishOrder .stop (restAll .idle s))

/-- HOLD_EXPIRY (R53). One taken after a repeat has renewed the hold finds it young: the expiry does not happen. -/
def execHoldExpiry (s : State) : Result := if s.active && s.holdOverdue then .next (expireHold s) else .next s

/-- Conflict quiet ends (R55). -/
def execConflictQuietEnd (s : State) : Result :=
  if s.active && s.orders.quiet.isSome then .next (conclude (endQuiet s)) else .next s

/-- A pause of this kind is over: the channel waits, to drive as its caps allow (R57, R81). -/
def Channel.endPause (k : PauseKind) (c : Channel) : Channel :=
  if c.act = .paused ∧ (c.pause.map (·.1)) = some k then { c with act := .waiting, pause := none } else c

/-- The reversal dwell ends (R57). -/
def execReversalDwellEnd (s : State) : Result :=
  if s.active then
    .next (conclude ((s.onChA (Channel.endPause .reversal)).onChB (Channel.endPause .reversal)))
  else .next s

/-- The step that the cursor stands on has reached its timeout (R65). -/
def State.stepOverdue (s : State) : Bool :=
  match s.orders.cursor with
  | none => false
  | some c => (s.cal.plans[c.plan]?).any fun p => p.timeout * 1000 ≤ c.age

/-- The step timeout passes (R65). A timeout that finds a different step in place finds one that is not overdue. -/
def execStepTimeout (s : State) : Result :=
  if s.active && s.stepOverdue then .next (conclude (stepFail s)) else .next s

end Sys2Proof.Machine
end

