-- ==== Sys2Proof/Machine/BusPort.lean ====
section
/-! DEFINITION. Meanings of the bus port's commands (chapter 2): FRAME_NOT_TAKEN, TRANSMIT_START, TRANSMIT_COMPLETE,
ARBITRATION_LOST, TRANSMIT_ERROR, RECEIVE_ERROR, OFF_PERIOD_END, BUS_REJOIN, BEACON_DUE, DRAW_NOTICE_DUE,
STANDBY_TIMEOUT. -/

namespace Sys2Proof.Machine

/-- Kinds that some block of a node takes; NOTICE, IDENTITY REPLY and WAKE CALL are taken by none (R23, R24). -/
def Kind.taken : Kind → Bool
  | .notice | .identityReply | .wakeCall => false
  | _ => true

/-- The frame is the command of a row of its own: accepted, of a kind that a block takes and, as a MOTION REQUEST, with one
of the eight orders in byte 1 (R23, R46, R173). -/
def ownRow (f : RawFrame) : Bool :=
  match acceptRaw f with
  | none => false
  | some .motionRequest =>
    let order := (f.data.getD 1 0).toNat
    1 ≤ order && order ≤ 8
  | some k => k.taken

/-- A frame that fails acceptance, or that no block takes, is received whole and has no other effect (R20, R23, R24). A frame
with a row of its own is that row's command, and not this one (log 12). -/
def execFrameNotTaken (f : RawFrame) (s : State) : Result :=
  if ownRow f || s.node.mode = .start then .next s
  else if s.node.mode = .watch && s.bus.standby then .next (wake .bus 0 s.inp s)
  else if s.offBus then .next s
  else .next (receivedWhole s)

/-! ### Transmission (R19, R25) -/

/-- The lowest kind that is pending (R19, R25). -/
def Bus.nextKind (b : Bus) : Option Kind :=
  if b.stopCall.isSome then some .stopCall
  else if b.drawSlot ≠ .empty then some .drawNotice
  else if b.beaconSlot ≠ .empty then some .postureBeacon
  else if b.notices ≠ [] then some .notice
  else if b.wakeCall.isSome then some .wakeCall
  else if b.identity.isSome then some .identityReply
  else none

/-- The data of the pending frame of a kind, a beacon or draw notice composed now (R25, R27 to R32). -/
def State.compose (s : State) : Kind → List Byte
  | .stopCall => (s.bus.stopCall.map fun x => encodeStopCall x.1 x.2).getD []
  | .drawNotice =>
    match s.bus.drawSlot with
    | .claim => (s.supply.claim.map fun c => encodeDraw false c.amount c.baseClass s.yieldCount).getD []
    | .release amount baseClass yield => encodeDraw true amount baseClass yield
    | .empty => []
  | .postureBeacon =>
    match s.bus.beaconSlot with
    | .retiring d => d
    | _ => dataBytes (encodeBeacon s.beacon)
  | .notice => (s.bus.notices.head?.map encodeNotice).getD []
  | .wakeCall => (s.bus.wakeCall.map fun w => [byteOf (wakeCode w)]).getD []
  | .identityReply => s.bus.identity.getD []
  | _ => []

/-- The controller can send: joined, not OFF, not in standby, no frame in flight. -/
def State.maySend (s : State) : Bool :=
  s.node.mode ≠ .start && s.bus.err ≠ .notJoined && !s.offBus && !s.bus.standby && s.bus.tx.isNone

/-- At a bus idle the pending frame of the lowest kind is started (R18, R19). -/
def execTransmitStart (s : State) : Result :=
  if s.maySend then
    match s.bus.nextKind with
    | none => .next s
    | some k =>
      let data := s.compose k
      let station := s.node.station
      .next (s.onBus fun b => { b with tx := some { kind := k.code, ident := identOf k station, data := data, live := true } })
  else .next s

/-- A completed frame leaves its slot or the queue, where that still holds this very frame (R19, R25). -/
def Bus.unload (t : Tx) (b : Bus) : Bus :=
  if !t.live then b
  else
    match Kind.ofCode t.kind with
    | some .stopCall => { b with stopCall := none }
    | some .drawNotice => { b with drawSlot := .empty }
    | some .postureBeacon => { b with beaconSlot := .empty }
    | some .notice => { b with notices := b.notices.tail }
    | some .wakeCall => { b with wakeCall := none }
    | some .identityReply => { b with identity := none }
    | _ => b

/-- The transmit error count falls by 1, and the error state follows (R20). -/
def Bus.sent (t : Tx) (b : Bus) : Bus := Bus.errState { b.unload t with tx := none, txErrors := b.txErrors - 1 }

/-- The wake cause a completed frame carried: the high four bits of a beacon's byte 1 (R27). -/
def Tx.wakeCarried (t : Tx) : Nat := if t.kind = Kind.postureBeacon.code then (t.data.getD 1 0).toNat / 16 else 0

/-- What is left of a cause when the frame has completed: none, where the frame carried this very cause (R1, R27). -/
def Tx.causeLeft (t : Tx) (w : WakeCause) : WakeCause :=
  if t.wakeCarried ≠ 0 ∧ t.wakeCarried = wakeCode w then .none else w

/-- A frame has completed. A beacon that carried the wake cause takes it out of the beacons that follow (R27); one that carried
the start cause ends the keeping of that (R1). A start cause that no beacon carried, because a restart or a bus-off came
first, is kept (DEDUCED, log 21). -/
def causeSent (t : Tx) (s : State) : State :=
  (s.onBus fun b => { b with wakeCause := t.causeLeft b.wakeCause }).onNode fun n =>
    { n with startCause := t.causeLeft n.startCause }

/-- The first CLAIM notice of a claim has completed: the settle window begins (R90). -/
def claimSent (t : Tx) (s : State) : State :=
  if t.live && t.kind = Kind.drawNotice.code && t.data.head? = some 0 then
    s.onSupply fun u =>
      { u with claim := u.claim.map fun c =>
          if c.standing = .unsent then { c with standing := .settling, settle := 0 } else c }
  else s

/-- The transceiver goes to standby: what is still pending is discarded (R28, R30). -/
def goStandby (s : State) : State :=
  s.onBus fun b => { b.emptied with standby := true, standbyTimer := none }

/-- In WATCH the transceiver goes to standby when nothing is pending any more (R28). -/
def standbyIfEmpty (s : State) : State :=
  if s.node.mode = .watch && !s.bus.standby && s.bus.nextKind.isNone then goStandby s else s

/-- An own frame completes (R19, R20, R27, R28, R90). -/
def execTransmitComplete (s : State) : Result :=
  match s.bus.tx with
  | none => .next s
  | some t => .next (standbyIfEmpty (claimSent t (causeSent t (s.onBus (Bus.sent t)))))

/-- Arbitration is lost: the node stops sending, and its frame stays pending (R19). -/
def execArbitrationLost (s : State) : Result := .next (s.onBus fun b => { b with tx := none })

/-- What a failed transmission adds to the transmit error count: a missing acknowledgement adds nothing while PASSIVE
(R20). -/
def Bus.txPenalty (e : TxError) (b : Bus) : Nat :=
  if e = .noAck ∧ b.err = .passive then 0 else 8

/-- An own frame fails: it stays pending, the count grows, and a count above 255 is bus-off (R19 to R21). -/
def execTransmitError (e : TxError) (s : State) : Result :=
  if s.bus.tx.isNone then .next s
  else
    let s := s.onBus fun b =>
      Bus.errState { b with tx := none, txErrors := min 256 (b.txErrors + b.txPenalty e) }
    .next (if 255 < s.bus.txErrors then goOff s else s)

/-- An error is detected in a frame being received (R20). After standby the controller receives none, and this row neither
counts nor wakes: the bus activity that wakes by R170 comes as WAKE_BUS or as a frame row (DESIGN CHOICE, logs 76 and
42). -/
def execReceiveError (s : State) : Result :=
  if s.node.mode = .start || s.offBus || s.bus.standby then .next s
  else .next (s.onBus fun b => Bus.errState { b with rxErrors := min 255 (b.rxErrors + 1) })

/-! ### Off period and timers -/

/-- The off period has passed: the controller waits for bus idle (R22). -/
def execOffPeriodEnd (s : State) : Result :=
  if s.offBus && s.bus.offTimer.isSome then
    .next (s.onBus fun b => { b with offTimer := none, awaitIdle := true })
  else .next s

/-- The controller sees bus idle and rejoins (R22). -/
def execBusRejoin (inp : Inputs) (s : State) : Result :=
  if s.offBus && s.bus.awaitIdle then
    let t := s.onBus Bus.joined
    .next (if s.active then rejoinListen inp t else t)
  else .next s

/-- A beacon falls due: an empty slot is filled (R26). -/
def execBeaconDue (s : State) : Result :=
  if s.bus.beaconTimer.isSome then
    .next (s.onBus fun b =>
      { b with beaconTimer := some 0, beaconSlot := if b.beaconSlot = .empty then .pending else b.beaconSlot })
  else .next s

/-- A CLAIM notice falls due: one is pending again (R29). -/
def execDrawNoticeDue (s : State) : Result :=
  if s.bus.drawTimer.isSome && s.supply.claim.isSome then
    .next (s.onBus fun b => { b with drawTimer := some 0, drawSlot := if b.drawSlot = .empty then .claim else b.drawSlot })
  else .next s

/-- 200 ms after WATCH entry the transceiver goes to standby (R28). -/
def execStandbyTimeout (s : State) : Result :=
  if s.node.mode = .watch && s.bus.standbyTimer.isSome then .next (goStandby s) else .next s

end Sys2Proof.Machine
end

