-- ==== Sys2Proof/Machine/Channels.lean ====
section
/-! DEFINITION. Meanings of the channel engines' commands (chapter 5): DUTY_STEP, WALL_TIME_LIMIT, ENCODER_PULSE,
COAST_WINDOW_CLOSE, HOME_SWITCH_CLOSE, OUT_SWITCH_CLOSE, SWITCH_OPEN, STALL, RETRY_PAUSE_END, OVERCURRENT_TRIP. -/

namespace Sys2Proof.Machine

/-- A duty step begins: the accumulator takes the step that ends, and the duty is composed anew (R77, R83, R127). -/
def execDutyStep (s : State) : Result :=
  match s.step with
  | none => .next s
  | some d => if s.active then .next (conclude (openStep (accCheck (addAcc d.duty (s.setStep none))))) else .next s

/-- The wall time reaches its limit (R84, R127): DRIVING and PAUSED are what it grows in. -/
def execWallTimeLimit (s : State) : Result :=
  if s.active && s.chanIds.any fun ch => (s.chan ch).act = .driving || (s.chan ch).act = .paused then
    .next (conclude (orderFault .travelTime detailWall s))
  else .next s

/-! ### Position (R72, R73, R76) -/

/-- The direction in which a pulse is counted: the driven one, or the last driven one in the coast window (R72). -/
def Channel.countDir (c : Channel) : Option Dir :=
  if c.act = .driving then some c.drvDir else c.coast.map (·.1)

/-- One step of the count, clamped to 0 to P_max (R72, R73). -/
def stepCount (d : Dir) (n pMax : Nat) : Nat :=
  match d with
  | .extend => min (n + 1) pMax
  | .retract => n - 1

/-- Each received pulse starts the stall timer of a DRIVING channel afresh (R79). -/
def Channel.pulsed (c : Channel) : Channel := if c.act = .driving then { c with stall := some 0 } else c

/-- A jack carrying an extend order has reached P_max (R76). -/
def State.strokeReached (s : State) (ch : ChanId) (before : Nat) : Bool :=
  s.isJack && (s.chan ch).carries && (s.chan ch).dir = some .extend && before < (s.cal.chan ch).pMax
    && (s.cal.chan ch).pMax ≤ (s.chan ch).count

/-- A pulse on a KNOWN channel is counted (R72). -/
def countPulse (ch : ChanId) (d : Dir) (s : State) : State :=
  let c := s.chan ch
  let s := placeChan ch (stepCount d c.count (s.cal.chan ch).pMax) s
  leftStowed c.cls (if s.strokeReached ch c.count then strokeLimit s else s)

/-- ENCODER_PULSE (R72, R75, R79): none is counted on an UNKNOWN channel, or at rest with the coast window closed. -/
def execEncoderPulse (ch : ChanId) (s : State) : Result :=
  if s.active && s.hasChan ch then
    let s := s.onChan ch Channel.pulsed
    match (s.chan ch).countDir with
    | some d => .next (conclude (if (s.chan ch).known then countPulse ch d s else s))
    | none => .next s
  else .next s

/-- The coast window closes (R72). -/
def execCoastWindowClose (ch : ChanId) (s : State) : Result :=
  .next (s.onChan ch fun c => { c with coast := none })

/-! ### Switches (R74, R75) -/

/-- A home switch that is not disregarded takes effect, and ends a retract order. -/
def homeTaken (ch : ChanId) (s : State) : State :=
  let s := snapHome ch s
  if (s.chan ch).carries && (s.chan ch).dir = some .retract then endOfTravel ch s else s

/-- An out switch that is not disregarded takes effect, and ends an extend order. -/
def outTaken (ch : ChanId) (s : State) : State :=
  let before := s.chA.cls
  let s := snapOut ch s
  leftStowed before (if (s.chan ch).carries && (s.chan ch).dir = some .extend then endOfTravel ch s else s)

/-- Both switches of the channel now read closed: in RUN the fault SWITCH_PAIR, and both are disregarded (R74). In LISTEN,
after its entry, they are disregarded too, and the fault waits for RUN (DESIGN CHOICE, log 23). -/
def pairTaken (s : State) : State := if s.node.mode = .run then sensorFault detailSwitchPair s else s

/-- The level of a switch as the engine holds it. -/
def Channel.setSwitch (sw : EndSwitch) (closed : Bool) (c : Channel) : Channel :=
  match sw with
  | .home => { c with homeClosed := closed }
  | .out => { c with outClosed := closed }

/-- A switch has taken a new level: its pin stands as the record's polarity says (R74), and the engine holds the level. -/
def takeSwitch (sw : EndSwitch) (ch : ChanId) (closed : Bool) (s : State) : State :=
  (s.onInp (Inputs.setSwitch sw ch (closed == s.cal.toSupply sw ch))).onChan ch (Channel.setSwitch sw closed)

/-- HOME_SWITCH_CLOSE (R74). -/
def execHomeSwitchClose (ch : ChanId) (s : State) : Result :=
  if s.active && s.hasChan ch then
    let s := takeSwitch .home ch true s
    .next (conclude (if s.pairClosed ch then pairTaken s else homeTaken ch s))
  else .next s

/-- OUT_SWITCH_CLOSE; a jack has no out switch (R74, R76). -/
def execOutSwitchClose (ch : ChanId) (s : State) : Result :=
  if s.active && s.hasChan ch && !s.isJack then
    let s := takeSwitch .out ch true s
    .next (conclude (if s.pairClosed ch then pairTaken s else outTaken ch s))
  else .next s

/-- One switch of a closed pair has opened: SWITCH_PAIR ends with the last pair, and the switch still closed is taken as
closing (R74). -/
def pairOpened (ch : ChanId) (s : State) : State :=
  let s := if s.anyPair then s else dropSensor detailSwitchPair s
  if s.homeReads ch then homeTaken ch s else if s.outReads ch then outTaken ch s else s

/-- SWITCH_OPEN (R74). -/
def execSwitchOpen (sw : EndSwitch) (ch : ChanId) (s : State) : Result :=
  if s.active && s.hasChan ch && !(s.isJack && sw = .out) then
    let pair := s.pairClosed ch
    let s := takeSwitch sw ch false s
    .next (if pair then conclude (pairOpened ch s) else s)
  else .next s

/-! ### Stalls (R79 to R82, R132) -/

/-- The count stands at the limit in the driven direction (R80). -/
def snapEnd (ch : ChanId) (d : Dir) (s : State) : State :=
  placeChan ch (match d with | .retract => 0 | .extend => (s.cal.chan ch).pMax) s

/-- Set the retry count and the stall notice flag; a slide's pair holds them alike (R127, R128). -/
def onPair (ch : ChanId) (f : Channel → Channel) (s : State) : State :=
  if s.isSlide then (s.onChA f).onChB f else s.onChan ch f

/-- The channel enters its retry pause (R81). -/
def retryPause (ch : ChanId) (s : State) : State := closeStep (s.onChan ch (Channel.pauseFor .retry))

/-- STALL's detail: the position per-mille, 0 for an UNKNOWN channel (R82). -/
def State.stallDetail (s : State) (ch : ChanId) : Half :=
  BitVec.ofNat 16 (perMille (s.chan ch) (s.cal.chan ch).pMax)

/-- The stall beyond the retry limit meets the stall action (R82). -/
def stallAction (ch : ChanId) (s : State) : State :=
  let d := s.stallDetail ch
  if !s.keepTrying then chanFault ch .stall d s
  else
    let told := (s.chan ch).stallNoticed
    let s := if told then s else notice (.fault .stall) (nchanOf ch) s.requester s.curOrder d s
    retryPause ch (onPair ch (fun c => { c with stallNoticed := true }) s)

/-- A stall that is not an end of travel is counted (R81). -/
def stallRetry (ch : ChanId) (s : State) : State :=
  if (s.chan ch).retries < s.retryLimit then
    retryPause ch (onPair ch (fun c => { c with retries := c.retries + 1 }) s)
  else stallAction ch s

/-- A stall is judged (R80): in the end zone it ends the order at its end of travel. It ends a STOW so too, as R80 says of any
retract order; R56 names only the home switch as the end of travel of a STOW (DESIGN CHOICE, log 72). -/
def judgeStall (ch : ChanId) (s : State) : State :=
  let d := (s.chan ch).drvDir
  if s.inEndZone ch d then endOfTravel ch (snapEnd ch d s) else stallRetry ch s

/-- A jack in FOOTING or SNUGGING whose current sense reads at or above its contact threshold presses on the ground (R79). The
sense is as last sampled (log 63). -/
def State.pressing (s : State) : Bool :=
  s.isJack && (s.level.phase = .footing || s.level.phase = .snugging) && s.inp.isnsA.atLeast s.cal.contact

/-- The stall timer is held at 0 (R79). -/
def Channel.holdStall (c : Channel) : Channel := { c with stall := c.stall.map fun _ => 0 }

/-- STALL: of a channel DRIVING at a duty that is applied. A jack that presses on the ground is not stalled: its stall timer
is held at 0 (R79). -/
def execStall (ch : ChanId) (s : State) : Result :=
  if s.active && s.hasChan ch && (s.chan ch).act = .driving && (s.chan ch).applied ≠ 0 then
    .next (if s.pressing then s.onChan ch Channel.holdStall else conclude (judgeStall ch s))
  else .next s

/-- The retry pause ends: the channel re-enters DRIVING, or waits (R81). -/
def execRetryPauseEnd (ch : ChanId) (s : State) : Result :=
  if s.active && s.hasChan ch then .next (conclude (s.onChan ch (Channel.endPause .retry))) else .next s

/-- The channel is FAULTED with OVERCURRENT: the watch of RUN raises no further fault (R85). -/
def Channel.tripped (c : Channel) : Bool := c.act = .faulted && (c.fault.map (·.1)) = some .overcurrent

/-- OVERCURRENT_TRIP: in RUN, a reading at or above the trip current (R85). A reading below it trips nothing: it is what the
current sense then reads (R79), and it shows the condition of R86 absent (logs 57, 63). -/
def execOvercurrentTrip (ch : ChanId) (reading : Current) (s : State) : Result :=
  if s.node.mode = .run && s.hasChan ch then
    let s := s.onInp (Inputs.setIsns ch reading)
    .next (if !reading.atLeast (s.cal.chan ch).trip then passArisen s.inp.isns (·.chan = nchanOf ch) s
      else if (s.chan ch).tripped then s
      else conclude (chanFault ch .overcurrent reading.detail s))
  else .next s

end Sys2Proof.Machine
end

