-- ==== Sys2Proof/Machine/SupplyShare.lean ====
section
/-! DEFINITION. Meanings of the supply share unit's commands (chapter 6): SETTLE_WINDOW_END, SUPPLY_SENSE_READING,
LOW_SUPPLY_TIMEOUT, TEMPERATURE_READING. -/

namespace Sys2Proof.Machine

/-- The claim in SETTLING is DECIDED (R90). -/
def Claim.decide (c : Claim) : Claim :=
  if c.standing = .settling then { c with standing := .decided, settle := Config.settleMs } else c

/-- The settle window ends, and the first admission decision is made (R90, R92). -/
def execSettleWindowEnd (s : State) : Result :=
  if s.active && s.supply.claim.any (·.standing = .settling) then
    .next (conclude (takeAdmission (s.onSupply fun u => { u with claim := u.claim.map Claim.decide })))
  else .next s

/-- SUPPLY_SENSE_READING: the droop cap follows (R98), and a SUPPLY_LOW that arose on a FAULTED channel passes at V_floor
(R86); an extended LISTEN ends at V_droop (R11). -/
def execSupplySenseReading (mv : Nat) (s : State) : Result :=
  if s.active then
    let s := readDroop (s.onInp fun i => { i with vs := mv })
    let s := conclude (passArisen s.inp.isns (·.kind = .supplyLow) s)
    .next (if s.node.mode = .listen && s.node.extended && s.cal.vDroop ≤ mv then enterRun s else s)
  else .next s

/-- SUPPLY_LOW's detail: the lowest reading of the 500 ms in tenths of a volt (R99). -/
def State.lowDetail (s : State) : Half := BitVec.ofNat 16 ((s.supply.low.map (·.2)).getD s.inp.vs / 100)

/-- The low-supply timer reaches 500 ms: every DRIVING channel takes SUPPLY_LOW, both rams together (R99, R128). -/
def execLowSupplyTimeout (s : State) : Result :=
  if s.active && s.supply.low.isSome && s.anyDriving then
    .next (conclude (orderFault .supplyLow s.lowDetail s))
  else .next s

/-- HOT's notice, with the reading as detail; the manual gives no form for a reading below 0 (R100, log 13).
Requester 0 and order none are the model's (DESIGN CHOICE, log 56). -/
def hotNotice (e : EventCode) (t : Int) (s : State) : State :=
  if t < 0 then notice (.event e) .node 0 none s.freeDetail (drawFree s)
  else notice (.event e) .node 0 none (BitVec.ofNat 16 t.toNat) s

/-- HOT with its hysteresis (R100). -/
def readHot (t : Int) (s : State) : State :=
  if 115 ≤ t && !s.supply.hot then hotNotice .hot t (s.onSupply fun u => { u with hot := true })
  else if t ≤ 105 && s.supply.hot then hotNotice .hotClear t (s.onSupply fun u => { u with hot := false })
  else s

/-- TEMPERATURE_READING: OVERHEAT, or HOT; nothing while the sense has failed (R100 to R102). -/
def execTemperatureReading (t : Int) (s : State) : Result :=
  if s.active then
    let s := s.onInp fun i => { i with temp := t }
    .next
      (if s.hasSensor detailTempSense then s
        else if 150 ≤ t then enterLockout .overheat s
        else conclude (readHot t s))
  else .next s

end Sys2Proof.Machine
end

