-- ==== Sys2Proof/Machine/Levelling.lean ====
section
/-! DEFINITION. Meanings of the level unit's commands (chapter 7): INCLINOMETER_READING, CONTACT_CURRENT,
FOOTING_WAIT_EXPIRY, MISSING_TIMER_EXPIRY, SETTLE_TIME_END, TRIM_DWELL_COMPLETE, FOOT_SWITCH_CLOSE, FOOT_SWITCH_OPEN. -/

namespace Sys2Proof.Machine

/-- What an interval puts in the window: its reading clamped, or the last reading again, or 0 and 0 (R104). -/
def State.windowReading (s : State) (r : Option (Int × Int)) : Int × Int :=
  match r with
  | some (pitch, roll) => (clampAngle pitch, clampAngle roll)
  | none => s.level.window.getLast?.getD (0, 0)

/-- The interval gives an unclamped reading (R105). -/
def soundReading (r : Option (Int × Int)) : Bool :=
  match r with
  | some (pitch, roll) => clampAngle pitch = pitch && clampAngle roll = roll
  | none => false

/-- The reading interval is one of the first four of a LISTEN, and the check of R12 has not failed in it. -/
def State.checksTilt (s : State) : Bool := s.node.mode = .listen && s.level.checkLeft ≠ 0

/-- An interval joins the counts of R105 and R12: sound intervals in a row, and what the LISTEN check has left. A check that
has failed is over for this LISTEN. -/
def Level.countInterval (sound : Bool) (l : Level) : Level :=
  { l with goodRun := if sound then min 4 (l.goodRun + 1) else 0, checkLeft := if sound then l.checkLeft - 1 else 0 }

/-- TILT by the interval: raised by one that is not sound and ended by four sound ones in a row (R105). The check of a LISTEN
that fails raises it again where it is active already (R12; log 24). -/
def judgeTilt (sound : Bool) (s : State) : State :=
  let checks := s.checksTilt
  let s := s.onLevel (Level.countInterval sound)
  if !sound then if s.hasSensor detailTilt && !checks then s else tiltFault s
  else if s.level.goodRun = 4 then dropSensor detailTilt s else s

/-- INCLINOMETER_READING, on a jack, not while the controller is OFF (R104 to R106, R124). -/
def execInclinometerReading (r : Option (Int × Int)) (s : State) : Result :=
  if s.active && s.isJack && !s.offBus then
    let s := s.onInp fun i => { i with tilt := r }
    let w := s.windowReading r
    .next (conclude (takeReading w (judgeTilt (soundReading r) s)))
  else .next s

/-- CONTACT_CURRENT: during a FOOT or SNUG leg with the channel DRIVING (R109). -/
def execContactCurrent (s : State) : Result :=
  if s.active && s.isJack && s.chA.act = .driving && (s.level.leg = some .foot || s.level.leg = some .snug) then
    .next (conclude (footContact s))
  else .next s

/-- The expected jacks that do not show CONTACT, the node's own foot included, lowest first (R113). A jack that is not FRESH
shows none, whatever its last contents (DEDUCED, log 32). -/
def State.footless (s : State) : List Nat :=
  s.cal.expJacks.filter fun st => if st = s.node.station then !s.level.contact else s.notInContact.contains st

/-- The footing timer reaches 30 s (R113). -/
def execFootingWaitExpiry (s : State) : Result :=
  if s.active && s.isJack && s.level.phase = .footing && s.level.footing.isSome then
    .next (conclude (sessionPeerLost (s.footless.headD 0) s))
  else .next s

/-- The missing timer reaches 1 s (R116). -/
def execMissingTimerExpiry (s : State) : Result :=
  if s.active && s.isJack && (s.level.phase = .lifting || s.level.phase = .trim) && s.level.missing.isSome then
    .next (conclude (sessionPeerLost (s.missingJacks.headD 0) s))
  else .next s

/-- The settle time ends (R119). -/
def execSettleTimeEnd (s : State) : Result :=
  if s.active && s.isJack && s.level.phase = .settling && s.level.settle.isSome then .next (conclude (settlingDone s))
  else .next s

/-- The trim dwell reaches 5 s, in RUN with the controller not OFF (R120, R21). -/
def execTrimDwellComplete (s : State) : Result :=
  if s.node.mode = .run && s.isJack && !s.offBus && s.level.phase = .stable && s.level.dwell.isSome then
    .next (conclude (trimComplete s))
  else .next s

/-- A fitted foot switch is the node's. -/
def State.footFitted (s : State) : Bool := s.isJack && s.cal.footFitted

/-- FOOT_SWITCH_CLOSE (R109). -/
def execFootSwitchClose (s : State) : Result :=
  if s.active && s.footFitted then
    let s := s.onInp fun i => { i with foot := true }
    .next (conclude (footContact (s.onLevel fun l => { l with footClosed := true })))
  else .next s

/-- FOOT_SWITCH_OPEN (R109). -/
def execFootSwitchOpen (s : State) : Result :=
  if s.active && s.footFitted then
    let s := s.onInp fun i => { i with foot := false }
    .next (s.onLevel fun l => { l with footClosed := false, contact := false })
  else .next s

end Sys2Proof.Machine
end

