-- ==== Sys2Proof/Machine/Slide.lean ====
section
/-! DEFINITION. Meanings of the square unit's timers (chapter 8): RACK_TIMER_EXPIRY, GRACE_EXPIRY. -/

namespace Sys2Proof.Machine

/-- RACK's detail: d clamped to −127 to +127, signed (R131, R173). -/
def State.rackDetail (s : State) : Half := s16Half s.rackShown

/-- The rack timer reaches 1000 ms: both rams take RACK (R131). -/
def execRackTimerExpiry (s : State) : Result :=
  if s.active && s.isSlide && s.square.rack.isSome then .next (conclude (pairFault .rack s.rackDetail s)) else .next s

/-- The lowest expected jack that fails the interlock in the order's direction (R136). -/
def State.failingJack (s : State) (d : Dir) : Nat :=
  (s.cal.expJacks.filter fun st => !(s.present st).any (jackAllows d)).headD 0

/-- The interlock is not regained within its grace (R136): PEER_LOST where a jack is missing, else BASE_MOVED. -/
def graceEnds (s : State) : State :=
  let req := s.requester
  let ord := s.curOrder
  match s.missingJacks.head? with
  | some st =>
    noticeFault .peerLost .node req ord (BitVec.ofNat 16 st) (haltNode .peerLost s)
  | none =>
    let st := s.failingJack s.taskDir
    notice (.refusal .interlock) .node req ord (BitVec.ofNat 16 st) (haltNode .baseMoved s)

/-- GRACE_EXPIRY (R136). -/
def execGraceExpiry (s : State) : Result :=
  if s.active && s.isSlide && s.square.grace.isSome then .next (conclude (graceEnds s)) else .next s

end Sys2Proof.Machine
end

