-- ==== Sys2Proof/Machine/Awning.lean ====
section
/-! DEFINITION. Meanings of the wind unit's commands (chapter 9): ANEM_PULSE, WIND_WINDOW_COMPLETE, HOLD_OFF_END. -/

namespace Sys2Proof.Machine

/-- The node has an anemometer of its own: an awning with the wind source flag (R139). -/
def State.windSource (s : State) : Bool := s.node.role = .awning && s.cal.windSource

/-- ANEM_PULSE: into the window in LISTEN and RUN, into the tally in WATCH (R139, R168). -/
def execAnemPulse (s : State) : Result :=
  if !s.windSource then .next s
  else if s.active then .next (s.onWind fun w => { w with pulses := min 254 (w.pulses + 1) })
  else if s.node.mode = .watch then .next (s.onWatch fun w => { w with tally := w.tally + 1 })
  else .next s

/-- The wind a FRESH awning entry offers: shown with the source flag set, and known (R140). -/
def Peer.windOffered (p : Peer) : Option Nat :=
  match p.beacon.body with
  | .awning _ _ _ wind _ source =>
    if p.fresh = .fresh ∧ stationRole p.station = .awning ∧ source ∧ wind ≠ 255 then some wind else none
  | _ => none

/-- The highest of a list, or 255 where it is empty. -/
def highest (l : List Nat) : Nat := if l.isEmpty then 255 else l.foldl max 0

/-- The own wind of the window now complete (R139, R140). -/
def State.windNow (s : State) : Nat :=
  if s.cal.windSource then s.wind.pulses else highest (s.peers.filterMap Peer.windOffered)

/-- What a completed window does to the unit (R139, R141, R144). The window that brings the run to three completes it, and
a retract raised later carries its wind (R142). -/
def Wind.complete (wR own : Nat) (w : Wind) : Wind :=
  let w := { w with window := some 0, pulses := 0, own := own }
  if wR = 0 then { w with highRun := 0, spent := false }
  else if own = 255 then { w with highRun := 0 }
  else if wR ≤ own then
    { w with highRun := min 3 (w.highRun + 1), holdOff := some 0,
             runWind := if w.highRun = 2 then own else w.runWind }
  else { w with highRun := 0, spent := false }

/-- WIND_WINDOW_COMPLETE: the window is evaluated, and the wind retract tested (R139 to R142). -/
def execWindWindowComplete (s : State) : Result :=
  if s.active && s.wind.window.isSome then
    let own := s.windNow
    .next (conclude (windTest (s.onWind (Wind.complete s.cal.wR own))))
  else .next s

/-- HOLD_OFF_END: the timer stops, in WATCH too (R144). -/
def execHoldOffEnd (s : State) : Result :=
  if s.active || s.node.mode = .watch then .next (conclude (s.onWind fun w => { w with holdOff := none })) else .next s

end Sys2Proof.Machine
end

