-- ==== Sys2Proof/Machine/StopLine.lean ====
section
/-! DEFINITION. Meanings of the stop and fault unit's commands (chapter 10): STOP_CALL, STOP_LINE_FALL, STOP_LINE_RISE,
STOP_PULSE_END. -/

namespace Sys2Proof.Machine

/-- STOP CALL in LISTEN and RUN: the halt of R148 with reason STOP_CALL; the frame's fields are not used (R150). -/
def execStopCall (source : Nat) (reason sourceRole : Byte) (s : State) : Result :=
  .next (receive (.stopCall source reason sourceRole) .stopCall source
    (fun s => if s.active then conclude (haltAll .stopCall s) else s) s)

/-- STOP_LINE_FALL: the line is taken low, once for each fall, and the node is halted (R147, R148). A line that the node
itself does not pull is pulled by some other source. With the line taken low already, the row stands for another source
that pulls it too: nothing is halted, and the line stays LOW when the own drive lets go (R147; log 59). -/
def execStopLineFall (s : State) : Result :=
  if !s.active then .next s
  else
    let other := s.stop.sensedLow || !s.pullsStop
    let s := s.onInp fun i => { i with stopPulled := i.stopPulled || other }
    .next (if s.stop.sensedLow then s else conclude (stopFall s))

/-- STOP_LINE_RISE: no other source pulls the line any more. Unless the node itself holds it low, the line rises: WAITING
channels may drive, and the wind retract is tested (R142, R147, R149; log 59). -/
def execStopLineRise (s : State) : Result :=
  if s.active && s.stop.sensedLow then
    let s := s.onInp fun i => { i with stopPulled := false }
    .next (if s.pullsStop then s
      else conclude (windTest (s.onStop fun u => { u with sensedLow := false })))
  else .next s

/-- STOP_PULSE_END: a PULSING drive ends (R153). -/
def execStopPulseEnd (s : State) : Result :=
  if s.stop.drive = .pulsing then .next (releaseDrive s) else .next s

end Sys2Proof.Machine
end

