-- ==== Sys2Proof/Machine/RoadState.lean ====
section
/-! DEFINITION. Meanings of the road unit's commands (chapter 11): PROTECT_REQUEST, ROAD_RELEASE, PARK_ASSERT. -/

namespace Sys2Proof.Machine

/-- The order NONE, EXTEND, BOTH of the inhibits (R159). -/
def inhibitRank : Inhibit → Nat
  | .none => 0
  | .extend => 1
  | .both => 2

/-- A decoded PROTECT REQUEST. -/
structure Protect where
  inhibitA : Inhibit
  inhibitB : Inhibit
  lock : LockAction
  deriving DecidableEq, Repr

/-- The fields of a request; inhibit B is not read on a jack or awning node, and keeps what it is (R159, log 18). -/
def decodeProtect (slide : Bool) (keepB : Inhibit) (r : ProtectReq) : Option Protect :=
  match inhibitOf r.inhibitA, (if slide then inhibitOf r.inhibitB else some keepB), lockOf r.lock with
  | some a, some b, some l => some { inhibitA := a, inhibitB := b, lock := l }
  | _, _, _ => none

/-- The first offending item of a request on the road with the lock set: 1 A, 2 B, 3 lock (R159, R173). -/
def Protect.offends (p : Protect) (r : Road) : Option Nat :=
  if r.park ≠ some false ∨ ¬ r.lock then none
  else if inhibitRank p.inhibitA < inhibitRank r.inhibitA then some 1
  else if inhibitRank p.inhibitB < inhibitRank r.inhibitB then some 2
  else if p.lock = .clear then some 3
  else none

/-- An accepted request sets the inhibits, then applies the lock action (R159). -/
def Protect.apply (p : Protect) (r : Road) : Road :=
  { r with inhibitA := p.inhibitA, inhibitB := p.inhibitB,
           lock := match p.lock with | .keep => r.lock | .set => true | .clear => false }

/-- A PROTECT REQUEST to the node's own station in LISTEN or RUN (R159). -/
def takeProtect (source : Nat) (r : ProtectReq) (s : State) : State :=
  if !s.active || r.target.toNat ≠ s.node.station then s
  else
    match decodeProtect s.isSlide s.road.inhibitB r with
    | none => s
    | some p =>
      match p.offends s.road with
      | some n => notice (.refusal .inhibited) .node source none (BitVec.ofNat 16 n) s
      | none => conclude (s.onRoad p.apply)

/-- PROTECT REQUEST (R159). -/
def execProtectRequest (source : Nat) (r : ProtectReq) (s : State) : Result :=
  .next (receive (.protectRequest source r) .protectRequest source (takeProtect source r) s)

/-- ROAD_RELEASE: PARK is taken going from ASSERTED to RELEASED (R157, R160). -/
def execRoadRelease (s : State) : Result :=
  if s.active && s.road.park = some true then
    .next (conclude (roadRelease (s.onInp fun i => { i with parkAsserted := false })))
  else .next s

/-- PARK_ASSERT: PARK is taken going from RELEASED to ASSERTED (R157, R164). -/
def execParkAssert (s : State) : Result :=
  if s.active && s.road.park = some false then
    .next (conclude (parkAsserted (s.onInp fun i => { i with parkAsserted := true })))
  else .next s

end Sys2Proof.Machine
end

