-- ==== Sys2Proof/Machine/ParkWatch.lean ====
section
/-! DEFINITION. Meanings of the watch unit's commands (chapter 12): IDLE_TIME_REACHED, POLL, WAKE_STOP_LINE, WAKE_BUS. -/

namespace Sys2Proof.Machine

/-- IDLE_TIME_REACHED: the entry test is made, now and at every later change (R166). -/
def execIdleTimeReached (s : State) : Result :=
  if s.node.mode = .run then .next (conclude (s.onOrders fun u => { u with idleReached := true })) else .next s

/-! ### The poll (R168, R169) -/

/-- A switch of the snapshot reads closed in a sample. -/
def State.sampled (s : State) (inp : Inputs) : SnapSwitch → Bool
  | .home ch => s.cal.homeIn inp ch
  | .out ch => s.cal.outIn inp ch
  | .foot => inp.foot

/-- The wind a poll judges: floor(tally × 1000 / period), held at 254 (R168). -/
def State.pollWind (s : State) : Nat := min 254 (s.watch.tally * 1000 / s.cal.pollMs)

/-- The cause with which an entry wakes, on a sample (R168). -/
def State.entryWakes (s : State) (inp : Inputs) (e : SnapEntry) : Option WakeCause :=
  if !e.polled then none
  else
    match e.kind with
    | .switch sw closed => if s.sampled inp sw ≠ closed then some .input else none
    | .tilt pitch roll =>
      match inp.tilt with
      | none => none
      | some (p, r) =>
        if 50 < (clampAngle p - pitch).natAbs ∨ 50 < (clampAngle r - roll).natAbs then some .tilt else none
    | .wind wR => if wR ≤ s.pollWind then some .wind else none

/-- The one cause of a poll: the first of TILT, WIND, INPUT (R168). -/
def pollCause (l : List WakeCause) : Option WakeCause :=
  if l.contains .tilt then some .tilt
  else if l.contains .wind then some .wind
  else if l.contains .input then some .input
  else none

/-- At the first poll made, a switch open in the snapshot loses its polled mark (R168). -/
def SnapEntry.afterFirst (e : SnapEntry) : SnapEntry :=
  match e.kind with
  | .switch _ false => { e with polled := false }
  | _ => e

/-- The poll timer begins its next period, unless the last polled mark is gone (R168). -/
def nextPoll (snap : List SnapEntry) : Option Nat := if snap.any (·.polled) then some 0 else none

/-- A poll that is made and wakes nothing (R168). -/
def pollMade (s : State) : State :=
  s.onWatch fun w =>
    let snap := if w.firstPoll then w.snap else w.snap.map SnapEntry.afterFirst
    { w with snap := snap, firstPoll := true, lowPause := false, tally := 0, poll := nextPoll snap }

/-- A poll skipped for undervoltage (R169). -/
def pollSkipped (s : State) : State := s.onWatch fun w => { w with lowPause := true, tally := 0, poll := some 0 }

/-- The poll is skipped: the supply reads below V_floor, or below V_droop while paused (R169). -/
def State.skipsPoll (s : State) : Bool :=
  if s.watch.lowPause then s.inp.vs < s.cal.vDroop else s.inp.vs < s.cal.vFloor

/-- POLL: a skipped poll reads the supply and samples nothing (R168, R169, R171). -/
def execPoll (inp : Inputs) (s : State) : Result :=
  if s.node.mode = .watch && s.watch.poll.isSome then
    let s := s.onInp fun i => { i with vs := inp.vs }
    if s.skipsPoll then .next (pollSkipped s)
    else
      let s := s.onInp fun _ => inp
      match pollCause (s.watch.snap.filterMap (s.entryWakes inp)) with
      | some cause => .next (wake cause s.pollWind inp s)
      | none => .next (pollMade s)
  else .next s

/-- WAKE_STOP_LINE: the line falls in WATCH (R170). -/
def execWakeStopLine (inp : Inputs) (s : State) : Result :=
  if s.node.mode = .watch then .next (wake .stopLine 0 inp s) else .next s

/-- WAKE_BUS: bus activity after standby (R170). -/
def execWakeBus (inp : Inputs) (s : State) : Result :=
  if s.node.mode = .watch && s.bus.standby then .next (wake .bus 0 inp s) else .next s

end Sys2Proof.Machine
end

