-- ==== Sys2Proof/Machine/Clock.lean ====
section
/-! DEFINITION. The node's own timebase (chapter 0): what 1 ms does to every running timer, and which timer commands then
fall due. `step` lets 1 ms pass when no command waits (DESIGN CHOICE, log 4). -/

namespace Sys2Proof.Machine

/-! ### One millisecond -/

/-- A running timer grows by 1 ms. -/
def tickTimer (t : Option Nat) : Option Nat := t.map (· + 1)

/-- An age of the peer table grows and stops at 65,535 ms (chapter 3). -/
def tickAge (n : Nat) : Nat := min Config.ageMax (n + 1)

/-- An entry's beacon age and claim age. -/
def Peer.tick (p : Peer) : Peer :=
  { p with age := tickAge p.age, claim := p.claim.map fun c => { c with age := tickAge c.age } }

/-- The controller's and the scheduler's timers. -/
def Bus.tick (b : Bus) : Bus :=
  { b with offTimer := tickTimer b.offTimer, standbyTimer := tickTimer b.standbyTimer,
           beaconTimer := tickTimer b.beaconTimer, drawTimer := tickTimer b.drawTimer }

/-- The order unit's ages; the idle count grows in RUN. -/
def Orders.tick (run : Bool) (u : Orders) : Orders :=
  { u with
    presses := u.presses.map fun p => { p with age := p.age + 1 }
    hold := u.hold.map fun h => { h with age := h.age + 1 }
    quiet := tickTimer u.quiet
    cursor := u.cursor.map fun c => { c with age := c.age + 1 }
    idle := if run then u.idle + 1 else u.idle }

/-- The stall timer: held at 0 while the applied duty is 0, or while the jack presses on the ground (R79). -/
def Channel.tickStall (held : Bool) (c : Channel) : Option Nat :=
  if held || c.applied = 0 then c.stall.map fun _ => 0 else tickTimer c.stall

/-- A channel's timers. `wall` says that the order's wall time grows (R84, R127). -/
def Channel.tick (held wall : Bool) (c : Channel) : Channel :=
  { c with
    pause := c.pause.map fun x => (x.1, x.2 + 1)
    order := c.order.map fun o => { o with age := o.age + 1 }
    wall := if wall then c.wall + 1 else c.wall
    coast := c.coast.map fun x => (x.1, x.2 + 1)
    stall := c.tickStall held }

/-- The wall time of a channel's order grows: it is DRIVING or PAUSED, or its partner under the same order is (R84,
R127). -/
def State.wallGrows (s : State) (ch : ChanId) : Bool :=
  let moves (c : Channel) : Bool := c.act = .driving || c.act = .paused
  moves (s.chan ch) || (s.isSlide && moves (s.chan ch.other))

/-- The claim's settle timer and the low-supply timer. -/
def Supply.tick (u : Supply) : Supply :=
  { u with
    claim := u.claim.map fun c => if c.standing = .settling then { c with settle := c.settle + 1 } else c
    low := u.low.map fun x => (x.1 + 1, x.2) }

/-- The level unit's timers. -/
def Level.tick (l : Level) : Level :=
  { l with footing := tickTimer l.footing, missing := tickTimer l.missing, settle := tickTimer l.settle,
           dwell := tickTimer l.dwell }

/-- The rack timer, where it runs, and the grace timer (R131, R136). -/
def Square.tick (runs : Bool) (q : Square) : Square :=
  { q with rack := if runs then tickTimer q.rack else q.rack, grace := tickTimer q.grace }

/-- 1 ms of LISTEN or RUN. -/
def elapseActive (s : State) : State :=
  let held := s.pressing
  let wa := s.wallGrows .a
  let wb := s.wallGrows .b
  let run := decide (s.node.mode = .run)
  let runs := s.rackRuns
  let s := (s.onNode fun n => { n with listen := tickTimer n.listen }).onPeers fun l => l.map Peer.tick
  let s := ((s.onOrders (Orders.tick run)).onChA (Channel.tick held wa)).onChB (Channel.tick false wb)
  let s := (s.setStep (s.step.map fun d => { d with age := d.age + 1 })).onSupply Supply.tick
  let s := ((s.onLevel Level.tick).onSquare (Square.tick runs)).onWind fun w =>
    { w with window := tickTimer w.window, holdOff := tickTimer w.holdOff }
  s.onStop fun u => { u with pulse := tickTimer u.pulse }

/-- 1 ms passes by the node's timebase: the controller's timers in every mode, the hold-off and the poll timer in WATCH,
everything in LISTEN and RUN. -/
def elapse (s : State) : State :=
  let s := s.onBus Bus.tick
  if s.active then elapseActive s
  else if s.node.mode = .watch then
    (s.onWind fun w => { w with holdOff := tickTimer w.holdOff }).onWatch fun w => { w with poll := tickTimer w.poll }
  else s

/-! ### What falls due -/

/-- A timer has reached a limit. -/
def reached (t : Option Nat) (limit : Nat) : Bool := t.any (limit ≤ ·)

/-- One command where a condition holds. -/
def dueIf (b : Bool) (i : Instr) : List Instr := if b then [i] else []

/-- The timers that run in any mode. -/
def State.dueBus (s : State) : List Instr :=
  dueIf (reached s.bus.offTimer Config.offMs) .offPeriodEnd
    ++ dueIf (reached s.bus.beaconTimer Config.beaconMs) .beaconDue
    ++ dueIf (reached s.bus.drawTimer Config.drawMs) .drawNoticeDue
    ++ dueIf (reached s.bus.standbyTimer Config.standbyMs) .standbyTimeout
    ++ dueIf (reached s.wind.holdOff Config.holdOffMs) .holdOffEnd
    ++ dueIf (reached s.stop.pulse Config.pulseMs) .stopPulseEnd

/-- The ages of a peer table entry (R37, R40). -/
def Peer.due (p : Peer) : List Instr :=
  dueIf p.turnsStale (.beaconAgeStale p.station)
    ++ dueIf p.turnsLost (.beaconAgeLost p.station)
    ++ dueIf (p.claim.any (·.age = Config.freshMs + 1)) (.claimLapse p.station)

/-- The order unit's timers. A hold is due before its press entry, which it removes itself (R47, R53). -/
def State.dueOrders (s : State) : List Instr :=
  let u := s.orders
  dueIf s.holdOverdue .holdExpiry
    ++ (u.presses.filter Press.overdue).map (fun p => .pressEntryLapse p.key)
    ++ dueIf (reached u.quiet Config.quietMs) .conflictQuietEnd
    ++ dueIf s.stepOverdue .stepTimeout
    ++ dueIf (s.node.mode = .run && !u.idleReached && s.cal.idleMs ≤ u.idle) .idleTimeReached

/-- A pause of this kind has lasted a time. -/
def Channel.pausedFor (k : PauseKind) (ms : Nat) (c : Channel) : Bool := c.pause.any fun x => x.1 = k && ms ≤ x.2

/-- A channel's timers. -/
def State.dueChan (s : State) (ch : ChanId) : List Instr :=
  let c := s.chan ch
  dueIf (reached (c.coast.map (·.2)) Config.coastMs) (.coastWindowClose ch)
    ++ dueIf (reached c.stall Config.stallMs) (.stall ch)
    ++ dueIf (c.pausedFor .retry Config.retryMs) (.retryPauseEnd ch)

/-- The engines' and the square unit's timers. -/
def State.dueChannels (s : State) : List Instr :=
  dueIf (s.chanIds.any fun ch => (s.chan ch).pausedFor .reversal Config.dwellMs) .reversalDwellEnd
    ++ s.chanIds.flatMap s.dueChan
    ++ dueIf (reached (s.step.map (·.age)) Config.stepMs) .dutyStep
    ++ dueIf (s.chanIds.any fun ch => s.wallGrows ch && s.wallLimit ≤ (s.chan ch).wall) .wallTimeLimit
    ++ dueIf (reached s.square.rack Config.rackMs) .rackTimerExpiry
    ++ dueIf (reached s.square.grace Config.graceMs) .graceExpiry

/-- The supply share unit's, level unit's and wind unit's timers. -/
def State.dueUnits (s : State) : List Instr :=
  dueIf (s.supply.claim.any fun c => c.standing = .settling && Config.settleMs ≤ c.settle) .settleWindowEnd
    ++ dueIf (reached (s.supply.low.map (·.1)) Config.lowSupplyMs) .lowSupplyTimeout
    ++ dueIf (s.level.phase = .footing && reached s.level.footing Config.footingMs) .footingWaitExpiry
    ++ dueIf (reached s.level.missing Config.missingMs) .missingTimerExpiry
    ++ dueIf (reached s.level.settle Config.settlingMs) .settleTimeEnd
    ++ dueIf (reached s.level.dwell Config.trimMs) .trimDwellComplete
    ++ dueIf (reached s.wind.window Config.windowMs) .windWindowComplete

/-- The STOP line as it now stands differs from the level last taken, and the LISTEN window. -/
def State.dueLines (s : State) : List Instr :=
  dueIf (s.lineLow && !s.stop.sensedLow) .stopLineFall
    ++ dueIf (!s.lineLow && s.stop.sensedLow) .stopLineRise
    ++ dueIf (reached s.node.listen Config.listenMs) .listenWindowEnd

/-- The commands that have fallen due. -/
def State.due (s : State) : List Instr :=
  s.dueBus
    ++ (if s.active then s.dueLines ++ s.peers.flatMap Peer.due ++ s.dueUnits ++ s.dueChannels ++ s.dueOrders else [])
    ++ dueIf (s.node.mode = .watch && reached s.watch.poll s.cal.pollMs) (.poll s.inp)

/-- 1 ms with no command waiting: the time passes, and what falls due waits in the queue. -/
def tick (s : State) : State :=
  let t := elapse s
  t.setPending (t.pending ++ t.due)

end Sys2Proof.Machine
end

