-- ==== Sys2Proof/Machine/Dispatch.lean ====
section
/-! DEFINITION. One arm per command, each one call of its meaning. -/

namespace Sys2Proof.Machine

def exec (i : Instr) (s : State) : Host.Outcome State Fault Refusal :=
  match i with
  | .powerOn inp => Sys2Proof.Machine.execPowerOn inp s
  | .supplyBelowRange => Sys2Proof.Machine.execSupplyBelowRange s
  | .nrstLow => Sys2Proof.Machine.execNrstLow s
  | .nrstHigh inp => Sys2Proof.Machine.execNrstHigh inp s
  | .calibrationWrite source w cal => Sys2Proof.Machine.execCalibrationWrite source w cal s
  | .calibrationProgrammingDone => Sys2Proof.Machine.execCalibrationProgrammingDone s
  | .calibrationLock source target inp => Sys2Proof.Machine.execCalibrationLock source target inp s
  | .identityQuery source target => Sys2Proof.Machine.execIdentityQuery source target s
  | .restartRequest source target inp => Sys2Proof.Machine.execRestartRequest source target inp s
  | .idleCurrentFail ch => Sys2Proof.Machine.execIdleCurrentFail ch s
  | .listenWindowEnd => Sys2Proof.Machine.execListenWindowEnd s
  | .postureBeacon source d => Sys2Proof.Machine.execPostureBeacon source d s
  | .drawNotice source r => Sys2Proof.Machine.execDrawNotice source r s
  | .beaconAgeStale station => Sys2Proof.Machine.execBeaconAgeStale station s
  | .beaconAgeLost station => Sys2Proof.Machine.execBeaconAgeLost station s
  | .claimLapse station => Sys2Proof.Machine.execClaimLapse station s
  | .stopCall source reason sourceRole => Sys2Proof.Machine.execStopCall source reason sourceRole s
  | .extend r => Sys2Proof.Machine.execExtend r s
  | .retract r => Sys2Proof.Machine.execRetract r s
  | .level r => Sys2Proof.Machine.execLevel r s
  | .stow r => Sys2Proof.Machine.execStow r s
  | .halt r => Sys2Proof.Machine.execHalt r s
  | .clear r isnsA isnsB => Sys2Proof.Machine.execClear r isnsA isnsB s
  | .sleep r => Sys2Proof.Machine.execSleep r s
  | .runPlan r => Sys2Proof.Machine.execRunPlan r s
  | .protectRequest source r => Sys2Proof.Machine.execProtectRequest source r s
  | .frameNotTaken f => Sys2Proof.Machine.execFrameNotTaken f s
  | .transmitStart => Sys2Proof.Machine.execTransmitStart s
  | .transmitComplete => Sys2Proof.Machine.execTransmitComplete s
  | .arbitrationLost => Sys2Proof.Machine.execArbitrationLost s
  | .transmitError e => Sys2Proof.Machine.execTransmitError e s
  | .receiveError => Sys2Proof.Machine.execReceiveError s
  | .offPeriodEnd => Sys2Proof.Machine.execOffPeriodEnd s
  | .busRejoin inp => Sys2Proof.Machine.execBusRejoin inp s
  | .beaconDue => Sys2Proof.Machine.execBeaconDue s
  | .drawNoticeDue => Sys2Proof.Machine.execDrawNoticeDue s
  | .standbyTimeout => Sys2Proof.Machine.execStandbyTimeout s
  | .pressEntryLapse key => Sys2Proof.Machine.execPressEntryLapse key s
  | .holdExpiry => Sys2Proof.Machine.execHoldExpiry s
  | .conflictQuietEnd => Sys2Proof.Machine.execConflictQuietEnd s
  | .reversalDwellEnd => Sys2Proof.Machine.execReversalDwellEnd s
  | .stepTimeout => Sys2Proof.Machine.execStepTimeout s
  | .dutyStep => Sys2Proof.Machine.execDutyStep s
  | .wallTimeLimit => Sys2Proof.Machine.execWallTimeLimit s
  | .encoderPulse ch => Sys2Proof.Machine.execEncoderPulse ch s
  | .coastWindowClose ch => Sys2Proof.Machine.execCoastWindowClose ch s
  | .homeSwitchClose ch => Sys2Proof.Machine.execHomeSwitchClose ch s
  | .outSwitchClose ch => Sys2Proof.Machine.execOutSwitchClose ch s
  | .switchOpen sw ch => Sys2Proof.Machine.execSwitchOpen sw ch s
  | .footSwitchClose => Sys2Proof.Machine.execFootSwitchClose s
  | .footSwitchOpen => Sys2Proof.Machine.execFootSwitchOpen s
  | .stall ch => Sys2Proof.Machine.execStall ch s
  | .retryPauseEnd ch => Sys2Proof.Machine.execRetryPauseEnd ch s
  | .overcurrentTrip ch reading => Sys2Proof.Machine.execOvercurrentTrip ch reading s
  | .settleWindowEnd => Sys2Proof.Machine.execSettleWindowEnd s
  | .supplySenseReading mv => Sys2Proof.Machine.execSupplySenseReading mv s
  | .lowSupplyTimeout => Sys2Proof.Machine.execLowSupplyTimeout s
  | .temperatureReading t => Sys2Proof.Machine.execTemperatureReading t s
  | .inclinometerReading r => Sys2Proof.Machine.execInclinometerReading r s
  | .contactCurrent => Sys2Proof.Machine.execContactCurrent s
  | .footingWaitExpiry => Sys2Proof.Machine.execFootingWaitExpiry s
  | .missingTimerExpiry => Sys2Proof.Machine.execMissingTimerExpiry s
  | .settleTimeEnd => Sys2Proof.Machine.execSettleTimeEnd s
  | .trimDwellComplete => Sys2Proof.Machine.execTrimDwellComplete s
  | .rackTimerExpiry => Sys2Proof.Machine.execRackTimerExpiry s
  | .graceExpiry => Sys2Proof.Machine.execGraceExpiry s
  | .anemPulse => Sys2Proof.Machine.execAnemPulse s
  | .windWindowComplete => Sys2Proof.Machine.execWindWindowComplete s
  | .holdOffEnd => Sys2Proof.Machine.execHoldOffEnd s
  | .stopLineFall => Sys2Proof.Machine.execStopLineFall s
  | .stopLineRise => Sys2Proof.Machine.execStopLineRise s
  | .stopPulseEnd => Sys2Proof.Machine.execStopPulseEnd s
  | .roadRelease => Sys2Proof.Machine.execRoadRelease s
  | .parkAssert => Sys2Proof.Machine.execParkAssert s
  | .idleTimeReached => Sys2Proof.Machine.execIdleTimeReached s
  | .poll inp => Sys2Proof.Machine.execPoll inp s
  | .wakeStopLine inp => Sys2Proof.Machine.execWakeStopLine inp s
  | .wakeBus inp => Sys2Proof.Machine.execWakeBus inp s

end Sys2Proof.Machine
end

