-- ==== Sys2Proof/Safety.lean ====
section
/-! DEFINITION. What a safe state of the node is, in the terms the statements use: the forms that the stored data keeps,
and the promises that chapters 1, 5, 8 and 11 make of every moment. -/

namespace Sys2Proof.Machine

/-! ### Stored data -/

/-- The bytes being programmed are unwritten and lie inside the record (R6, R7). -/
def Store.progFree (st : Store) : Bool :=
  match st.prog with
  | none => true
  | some (a, bytes) => a + bytes.length ≤ 256 && (List.range bytes.length).all fun i => !st.written (a + i)

/-- The calibration store keeps its canonical form, and programs unwritten bytes only (R5 to R7). -/
def State.storeOk (s : State) : Bool := s.store.wf && s.store.progFree

/-- Every byte written in one store is written with the same value in another (R5). -/
def Store.extends (st st' : Store) : Prop :=
  (∀ a v, cellsFind st.cells a = some v → cellsFind st'.cells a = some v) ∧ (st.locked = true → st'.locked = true)

/-- The notice queue and the press list hold at most eight entries each (R30, R47). -/
def State.queuesOk (s : State) : Bool :=
  s.bus.notices.length ≤ Config.queueMax && s.orders.presses.length ≤ Config.pressMax

/-- Stations of a peer table, rising strictly from `lo` on. -/
def peersRise (lo : Nat) : List Peer → Bool
  | [] => true
  | p :: rest => lo ≤ p.station && peersRise (p.station + 1) rest

/-- The peer table holds at most one entry for each station, motion stations only, and never the own station (R33). -/
def State.peersOk (s : State) : Bool :=
  peersRise 0 s.peers && s.peers.all fun p => isMotionStation p.station && p.station ≠ s.node.station

/-! ### Motion -/

/-- A channel that is not DRIVING has applied duty 0 (R68). -/
def Channel.dutyOk (c : Channel) : Bool := c.act = .driving || c.applied = 0

/-- Both channels keep R68's duty rule. -/
def State.dutyOk (s : State) : Bool := s.chA.dutyOk && s.chB.dutyOk

/-- A KNOWN channel's count lies in 0 to P_max and gives its class; an UNKNOWN one reads 0 (R73). -/
def Channel.placeOk (pMax : Nat) (c : Channel) : Bool :=
  if c.cls = .unknown then c.count = 0 else c.count ≤ pMax && c.cls = classOfCount c.count pMax

/-- Both channels keep R73. -/
def State.placesOk (s : State) : Bool := s.chA.placeOk s.cal.chA.pMax && s.chB.placeOk s.cal.chB.pMax

/-- The leading ram of a slide is not driven while the rack error stands at or beyond the rack limit (R130). -/
def State.leadHeld (s : State) : Bool :=
  !(s.isSlide && s.bothKnown && s.cal.syncBand < s.cal.rLim && s.cal.rLim ≤ s.rackSize)
    || ((!s.leads .a || s.chA.applied = 0) && (!s.leads .b || s.chB.applied = 0))

/-- No channel drives once the accumulator of its order has reached its limit (R83). -/
def State.travelOk (s : State) : Bool := !s.anyDriving || s.chA.acc < s.accLimit

/-- The accumulator stays below its limit even when the running duty step is settled now (R83). -/
def State.shortOfTravel (s : State) : Bool := s.chA.acc + (s.step.map (·.duty)).getD 0 < s.accLimit

/-- Nothing drives while the STOP line is sensed low (R70). -/
def State.stopOk (s : State) : Bool := !s.stop.sensedLow || (s.chA.applied = 0 && s.chB.applied = 0)

/-- An applied duty never exceeds what the channel's inputs allow as they stand (R70, R77, R78). -/
def State.boundOk (s : State) : Bool := s.chanIds.all fun ch => (s.chan ch).applied ≤ s.duty ch

/-- No channel extends, no order extends and no session or STABLE stands while PARK is taken RELEASED; before PARK has
been taken the node has neither (R160). -/
def State.roadOk (s : State) : Bool :=
  match s.road.park with
  | some true => true
  | some false => !s.extending && (!s.isJack || (s.level.phase = .none && s.level.leg.isNone))
  | none =>
    (s.node.mode = .start || s.node.mode = .setup || s.node.mode = .lockout)
      && !s.extending && s.level.phase = .none && s.level.leg.isNone

/-- The road alarm stands exactly while PARK is taken RELEASED and the actuator is not stowed (R161). -/
def State.alarmOk (s : State) : Bool := s.road.alarm = decide (s.road.park = some false ∧ s.nodeClass ≠ .stowed)

/-- The budget cap is 0 or between 25 and 100 (R92). It is 0 without a claim and before the claim's first decision, and
never above what the decision of R92 would give now; LOCKOUT alone holds it with the claim gone (R103). A channel that
has the node for itself waits with passes, and neither drives nor pauses with them (R95, R96). -/
def State.capOk (s : State) : Bool :=
  (s.supply.cap = 0 || (25 ≤ s.supply.cap && s.supply.cap ≤ 100))
    && (s.node.mode = .lockout
      || match s.supply.claim with
        | none => s.supply.cap = 0
        | some c =>
          if c.standing = .decided then s.supply.cap ≤ budgetCap (s.cal.bTotal - s.aheadSum (s.ownKey c)) c.amount
          else s.supply.cap = 0)
    && (s.isSlide || s.supply.passes = 0 || (s.chA.act ≠ .driving && s.chA.act ≠ .paused))

/-- The duty that the accumulator takes for the running step is at most 100 (R77, R83). -/
def State.stepOk (s : State) : Bool := s.step.all (·.duty ≤ 100)

/-! ### Orders, channels and sessions -/

/-- The phase in which a leg runs (R110). -/
def LegKind.phase : LegKind → Phase
  | .foot => .footing
  | .lift => .lifting
  | .snug => .snugging
  | .trim => .trim

/-- A leg runs in its own phase, on a channel that carries an extend order; a FOOT leg runs with the foot in the AIR, and a
lift has stroke left (R110, R112, R117). Without a leg a session's channel rests (R110). -/
def State.legOk (s : State) : Bool :=
  match s.level.leg with
  | none => s.level.phase = .none || !s.chA.carries
  | some k =>
    s.level.phase = k.phase && s.chA.carries && s.chA.dir = some .extend
      && (if k = .foot then !s.level.contact else k = .snug || s.chA.count < s.cal.chA.pMax)

/-- The order of the node, its channels and the level session agree: channels carry an order exactly while the node has one
that is no session's, a session's order stands exactly in FOOTING to TRIM, STABLE has no order, a hold belongs to a HELD
order, legs are in order, a DRIVING channel moves in its order's direction, and WATCH has no order, no claim and no own drive
(R52, R54, R68, R110, R111, R122, R156, R166). -/
def State.ordersOk (s : State) : Bool :=
  (match s.orders.cur with
    | none => !s.anyCarries && s.orders.hold.isNone && (!s.isJack || !inSession s.level.phase)
    | some o =>
      (o.origin = .held || s.orders.hold.isNone)
        && if o.task.session then s.isJack && inSession s.level.phase && o.origin ≠ .held
          else s.anyCarries && (!s.isJack || s.level.phase = .none))
    && (!s.isJack || s.legOk)
    && (s.chanIds.all fun ch => (s.chan ch).act ≠ .driving || (s.chan ch).dir = some (s.chan ch).drvDir)
    && (s.node.mode ≠ .watch || (s.orders.cur.isNone && s.supply.claim.isNone && s.stop.drive = .none))

/-! ### Recorded faults and TILT -/

/-- The fault that a channel records is of a channel kind (R86). -/
def Channel.faultOk (c : Channel) : Bool := c.fault.all fun x => channelKind x.1

/-- Both channels record faults of a channel kind alone (R86). -/
def State.faultsOk (s : State) : Bool := s.chA.faultOk && s.chB.faultOk

/-- While TILT is listed a jack is in no session, and in STABLE its trim dwell does not run (R105, R111, R120). -/
def State.tiltOk (s : State) : Bool :=
  !s.isJack || !s.hasSensor detailTilt
    || (!inSession s.level.phase && (s.level.phase ≠ .stable || s.level.dwell.isNone))

/-! ### Role waits -/

/-- In LISTEN and RUN no ram of a slide drives under an order whose interlock fails, but for an override (R135, R137), and no
jack drives in LIFTING or TRIM while a slide entry shows DRIVING (R115), nor under a stow wait that is not met (R163). In the
other modes every drive enable is inactive. -/
def State.waitsHeld (s : State) : Bool :=
  !s.active
    || match s.node.role with
      | .slide => (s.orders.cur.all fun o => o.override || s.jacksAllow o.task.dir) || !s.anyDriving
      | .jack =>
        s.chA.act ≠ .driving
          || (!((s.level.phase = .lifting || s.level.phase = .trim) && s.someSlide (· = .driving))
            && !(s.underStowWait && !s.stowWaitMet))
      | _ => true

/-- The numbers of a beacon lie in the ranges of their fields (R27, R173). -/
def Beacon.fits (b : Beacon) : Bool :=
  match b.body with
  | .jack _ _ _ _ _ _ _ pitch roll stroke =>
    decide (-1500 ≤ pitch ∧ pitch ≤ 1500) && decide (-1500 ≤ roll ∧ roll ≤ 1500) && stroke ≤ 1023
  | .slide _ _ _ posA posB rack => posA ≤ 1000 && posB ≤ 1000 && decide (-128 ≤ rack ∧ rack ≤ 127)
  | .awning _ _ pos wind _ _ => pos ≤ 1000 && wind ≤ 255

/-! ### What statements say of a command's hypotheses -/

/-- A frame of this kind and source reaches its block: the controller has joined and is not OFF, the node neither starts
nor watches, the source passes R23, and no programming holds frames back (R7, R20, R23, R24). -/
def State.delivers (s : State) (k : Kind) (source : Nat) : Bool :=
  s.node.mode ≠ .start && s.node.mode ≠ .watch && s.bus.err ≠ .off && s.bus.err ≠ .notJoined
    && sourceAllowed k source && s.store.prog.isNone

/-- A request that the order unit takes and that check 2 of R49 lets pass (R46, R48). -/
def State.takes (s : State) (r : MotionReq) : Bool :=
  s.delivers .motionRequest r.source && s.hears r && !s.hasFault .duplicate

/-- Nothing drives the node's order or its plan: no cursor stands (chapter 4). -/
def State.noPlan (s : State) : Bool := s.orders.cursor.isNone

/-- The node rests: no order, no hold, no cursor, no claim, no channel that carries an order. -/
def State.rests (s : State) : Bool :=
  s.orders.cur.isNone && s.orders.hold.isNone && s.orders.cursor.isNone && s.supply.claim.isNone && !s.anyCarries

/-- A sound temperature reading of 150 °C or more, which an entry to LISTEN meets with LOCKOUT (R12, R101). -/
def overheats (inp : Inputs) : Bool := tempSound inp.temp && 150 ≤ inp.temp

/-- The current senses of the two channels. -/
def senses (a b : Current) : ChanId → Current
  | .a => a
  | .b => b

/-! ### Frames: what a command leaves alone -/

/-- The calibration store, the record as read, role and station. -/
abbrev State.sameRecord (s t : State) : Prop :=
  t.store = s.store ∧ t.cal = s.cal ∧ t.node.role = s.node.role ∧ t.node.station = s.node.station

/-- Counts, classes and switch levels of both channels. -/
abbrev State.samePlaces (s t : State) : Prop :=
  (t.chA.count = s.chA.count ∧ t.chA.cls = s.chA.cls ∧ t.chA.homeClosed = s.chA.homeClosed
      ∧ t.chA.outClosed = s.chA.outClosed)
    ∧ t.chB.count = s.chB.count ∧ t.chB.cls = s.chB.cls ∧ t.chB.homeClosed = s.chB.homeClosed
      ∧ t.chB.outClosed = s.chB.outClosed

/-- The channel stands at the place of a switch that reads closed: where an order ends that finds it so (R70, R74). -/
abbrev State.atSwitch (s t : State) (ch : ChanId) : Prop :=
  (s.homeReads ch = true ∧ (t.chan ch).count = 0 ∧ (t.chan ch).cls = .stowed)
    ∨ (s.outReads ch = true ∧ (t.chan ch).count = (s.cal.chan ch).pMax
        ∧ (t.chan ch).cls = classOfCount (s.cal.chan ch).pMax (s.cal.chan ch).pMax)

/-- The channel has its switch levels, and keeps its count and class or stands at a switch that reads closed. -/
abbrev State.samePlaceOrEnd (s t : State) (ch : ChanId) : Prop :=
  (t.chan ch).homeClosed = (s.chan ch).homeClosed ∧ (t.chan ch).outClosed = (s.chan ch).outClosed
    ∧ (((t.chan ch).count = (s.chan ch).count ∧ (t.chan ch).cls = (s.chan ch).cls) ∨ s.atSwitch t ch)

/-- Both channels do. -/
abbrev State.samePlacesOrEnds (s t : State) : Prop := s.samePlaceOrEnd t .a ∧ s.samePlaceOrEnd t .b

/-- The road alarm is as it was, or follows the class of a channel that has come to stand at a switch that reads closed. -/
abbrev State.sameAlarmOrEnds (s t : State) : Prop :=
  t.road.alarm = s.road.alarm
    ∨ (s.atSwitch t .a ∨ s.atSwitch t .b) ∧ t.road.alarm = decide (t.road.park = some false ∧ t.nodeClass ≠ .stowed)

/-- The road unit but for its stow standing, and the winds and the hold-off of the wind unit. -/
abbrev State.sameRoadWind (s t : State) : Prop :=
  { t.road with stow := s.road.stow } = s.road ∧ t.wind.own = s.wind.own ∧ t.wind.holdOff = s.wind.holdOff
    ∧ t.wind.runWind = s.wind.runWind ∧ t.wind.pulses = s.wind.pulses

/-- The same, where an order may end at a switch that reads closed. -/
abbrev State.sameRoadWindOrEnds (s t : State) : Prop :=
  { t.road with stow := s.road.stow, alarm := s.road.alarm } = s.road ∧ s.sameAlarmOrEnds t
    ∧ t.wind.own = s.wind.own ∧ t.wind.holdOff = s.wind.holdOff ∧ t.wind.runWind = s.wind.runWind
    ∧ t.wind.pulses = s.wind.pulses

/-- Droop cap and HOT, and the level unit's readings: window, attitude, consensus. -/
abbrev State.sameSense (s t : State) : Prop :=
  (t.supply.droop = s.supply.droop ∧ t.supply.hot = s.supply.hot)
    ∧ t.level.window = s.level.window ∧ t.level.pitch = s.level.pitch ∧ t.level.roll = s.level.roll
    ∧ t.level.p = s.level.p ∧ t.level.q = s.level.q ∧ t.level.footClosed = s.level.footClosed

/-- The controller: error state and counts, off period, wake cause, wake call and identity slot. -/
abbrev State.sameController (s t : State) : Prop :=
  t.bus.err = s.bus.err ∧ t.bus.txErrors = s.bus.txErrors ∧ t.bus.rxErrors = s.bus.rxErrors
    ∧ t.bus.offTimer = s.bus.offTimer ∧ t.bus.awaitIdle = s.bus.awaitIdle ∧ t.bus.wakeCause = s.bus.wakeCause
    ∧ t.bus.wakeCall = s.bus.wakeCall ∧ t.bus.identity = s.bus.identity

/-- All that motion, orders and plans leave alone, places apart. -/
abbrev State.sameOutside (s t : State) : Prop :=
  s.sameRecord t ∧ s.sameRoadWind t ∧ s.sameController t ∧ t.peers = s.peers ∧ t.pending = s.pending

/-- The same, where an order may end at a switch that reads closed. -/
abbrev State.sameOutsideOrEnds (s t : State) : Prop :=
  s.sameRecord t ∧ s.sameRoadWindOrEnds t ∧ s.sameController t ∧ t.peers = s.peers ∧ t.pending = s.pending

end Sys2Proof.Machine
end

