-- ==== Sys2Proof/Certificates/Slice0/Obligations.lean ====
section
/-! DEFINITION. The statements for the provers: what each command does where it has its effect, and what every step keeps. -/

open Sys2Proof Sys2Proof.Machine

/-- With a command at the front of the queue, step answers what exec answers for it on the state with the rest of
the queue. (00 (the part takes commands one after another).) -/
def Obligations.StepRunsFrontCommand : Prop :=
  ∀ (c : Instr) (rest : List Instr) (s : State), s.pending = c :: rest → step s = exec c (s.setPending rest)

/-- On an empty queue step answers the state 1 ms later, its queue holding what has then fallen due. The
controller's and scheduler's timers have grown by 1 ms. In LISTEN and RUN so have the LISTEN window, the ages of the
peer table (up to 65,535), the ages of presses, hold, quiet and cursor, in RUN the idle count, and the timers of
channels, duty step, supply share, level, square, wind and stop unit; a stall timer stands at 0 while its duty is 0
or the jack presses on the ground, a wall time grows while a channel of the order is DRIVING or PAUSED, and the rack
timer while a ram is. In WATCH the hold-off and the poll timer have grown, and in the other modes nothing else has.
Everything else is as before, the peers' contents and claims among it. That a step on an empty queue is 1 ms is a
DESIGN CHOICE of the model (log 4). (00 (timebase), 95, 02 section 2.4, 03 sections 3.3 and 3.4, 05, 12.) -/
def Obligations.EmptyQueueLetsTimePass : Prop :=
  ∀ s : State, s.pending = []
    → ∃ t, step s = .next t ∧ t = { elapse s with pending := (elapse s).due }
      ∧ t.bus = { s.bus with
          offTimer := s.bus.offTimer.map (· + 1), standbyTimer := s.bus.standbyTimer.map (· + 1),
          beaconTimer := s.bus.beaconTimer.map (· + 1), drawTimer := s.bus.drawTimer.map (· + 1) }
      ∧ (s.active = true
          → t.node = { s.node with listen := s.node.listen.map (· + 1) }
            ∧ t.peers = s.peers.map (fun p =>
                  { p with
                    age := min 65535 (p.age + 1),
                    claim := p.claim.map (fun c => { c with age := min 65535 (c.age + 1) }) })
            ∧ t.orders = { s.orders with
                presses := s.orders.presses.map (fun p => { p with age := p.age + 1 }),
                hold := s.orders.hold.map (fun h => { h with age := h.age + 1 }),
                quiet := s.orders.quiet.map (· + 1),
                cursor := s.orders.cursor.map (fun c => { c with age := c.age + 1 }),
                idle := if s.node.mode = .run then s.orders.idle + 1 else s.orders.idle }
            ∧ t.chA = { s.chA with
                pause := s.chA.pause.map (fun x => (x.1, x.2 + 1)),
                order := s.chA.order.map (fun o => { o with age := o.age + 1 }),
                wall := if (s.chA.act = .driving ∨ s.chA.act = .paused)
                      ∨ (s.node.role = .slide ∧ (s.chB.act = .driving ∨ s.chB.act = .paused)) then s.chA.wall + 1
                  else s.chA.wall, coast := s.chA.coast.map (fun x => (x.1, x.2 + 1)),
                stall := if s.pressing = true ∨ s.chA.applied = 0 then s.chA.stall.map (fun _ => 0)
                  else s.chA.stall.map (· + 1) }
            ∧ t.chB = { s.chB with
                pause := s.chB.pause.map (fun x => (x.1, x.2 + 1)),
                order := s.chB.order.map (fun o => { o with age := o.age + 1 }),
                wall := if (s.chB.act = .driving ∨ s.chB.act = .paused)
                      ∨ (s.node.role = .slide ∧ (s.chA.act = .driving ∨ s.chA.act = .paused)) then s.chB.wall + 1
                  else s.chB.wall, coast := s.chB.coast.map (fun x => (x.1, x.2 + 1)),
                stall := if s.chB.applied = 0 then s.chB.stall.map (fun _ => 0) else s.chB.stall.map (· + 1) }
            ∧ t.step = s.step.map (fun d => { d with age := d.age + 1 })
            ∧ t.supply = { s.supply with
                claim := s.supply.claim.map (fun c =>
                      { c with settle := if c.standing = .settling then c.settle + 1 else c.settle }),
                low := s.supply.low.map (fun x => (x.1 + 1, x.2)) }
            ∧ t.level = { s.level with
                footing := s.level.footing.map (· + 1), missing := s.level.missing.map (· + 1),
                settle := s.level.settle.map (· + 1), dwell := s.level.dwell.map (· + 1) }
            ∧ t.square = { s.square with
                rack := if s.rackRuns = true then s.square.rack.map (· + 1) else s.square.rack,
                grace := s.square.grace.map (· + 1) }
            ∧ t.wind = { s.wind with window := s.wind.window.map (· + 1), holdOff := s.wind.holdOff.map (· + 1) }
            ∧ t.stop = { s.stop with pulse := s.stop.pulse.map (· + 1) } ∧ t.store = s.store ∧ t.cal = s.cal
            ∧ t.inp = s.inp ∧ t.road = s.road ∧ t.watch = s.watch ∧ t.free = s.free)
      ∧ (s.node.mode = .watch
          → t = { s with
              bus := t.bus, wind := { s.wind with holdOff := s.wind.holdOff.map (· + 1) },
              watch := { s.watch with poll := s.watch.poll.map (· + 1) }, pending := t.pending })
      ∧ (s.active = false → s.node.mode ≠ .watch → t = { s with bus := t.bus, pending := t.pending })

/-- For every command and every state exec answers a next state, and the queue of waiting commands in it is the
queue before: no command faults, none is refused, none touches the queue. That no command stops the node is DEDUCED
(log 50), and that a command leaves the queue alone is a DESIGN CHOICE of the model (log 44). (95, 00.) -/
def Obligations.EveryCommandAnswersNext : Prop :=
  ∀ (c : Instr) (s : State), ∃ t, exec c s = .next t ∧ t.pending = s.pending

/-- At reset every slot and the notice queue are empty and both error counts 0, the peer table is empty, there are
no presses, hold, quiet or cursor, both channels are IDLE, UNKNOWN and without order, no claim stands, the level
phase is NONE, no fault is listed, the own drive is NONE, PARK has not been taken, the lock flag is clear, the
snapshot is empty and nothing in the store is written. That the machine's reset is this state, held before the first
START, is a DESIGN CHOICE (log 1), class UNKNOWN before the home switches have been read is DEDUCED (log 11), and
values that the chapters' tables do not give are those of log 10. The state after reset meets each invariant that
the tier 3 statements say every step keeps: store form, queue lengths, peer table form, duty rule and duty bound,
places, leading ram, travel limit, road alarm, road rule, cap and duty step, agreement of orders, channels and
sessions, recorded faults, TILT, and role waits. (01 section 1.1, 04 section 4.6, 05, 06, 07, 08, 09, 10, 11, 12, 02
section 2.4.) -/
def Obligations.ResetIsPowerOnStateAndKeepsEveryForm : Prop :=
  (State.reset.bus.notices = [] ∧ State.reset.bus.beaconSlot = .empty ∧ State.reset.bus.drawSlot = .empty
        ∧ State.reset.bus.stopCall = none ∧ State.reset.bus.wakeCall = none ∧ State.reset.bus.identity = none
        ∧ State.reset.bus.txErrors = 0 ∧ State.reset.bus.rxErrors = 0 ∧ State.reset.bus.beaconTimer = none
        ∧ State.reset.peers = [] ∧ State.reset.orders.presses = [] ∧ State.reset.orders.hold = none
        ∧ State.reset.orders.quiet = none ∧ State.reset.orders.cursor = none
        ∧ (∀ ch, (State.reset.chan ch).act = .idle ∧ (State.reset.chan ch).cls = .unknown
            ∧ (State.reset.chan ch).order = none ∧ (State.reset.chan ch).applied = 0
            ∧ (State.reset.chan ch).count = 0) ∧ State.reset.supply.claim = none ∧ State.reset.supply.passes = 0
        ∧ State.reset.supply.hot = false ∧ State.reset.level.phase = .none ∧ State.reset.level.contact = false
        ∧ State.reset.level.window = [] ∧ State.reset.square = { rack := none, lost := false, grace := none }
        ∧ State.reset.wind.own = 255 ∧ State.reset.wind.highRun = 0 ∧ State.reset.wind.holdOff = none
        ∧ State.reset.stop.drive = .none ∧ State.reset.stop.faults = [] ∧ State.reset.road.park = none
        ∧ State.reset.road.lock = false ∧ State.reset.watch.snap = [] ∧ State.reset.store.cells = []
        ∧ State.reset.store.locked = false)
    ∧ (State.reset.storeOk = true ∧ State.reset.queuesOk = true ∧ State.reset.peersOk = true
        ∧ State.reset.dutyOk = true ∧ State.reset.boundOk = true ∧ State.reset.placesOk = true
        ∧ State.reset.leadHeld = true ∧ State.reset.travelOk = true ∧ State.reset.alarmOk = true
        ∧ State.reset.roadOk = true ∧ State.reset.capOk = true ∧ State.reset.stepOk = true
        ∧ State.reset.ordersOk = true ∧ State.reset.faultsOk = true ∧ State.reset.tiltOk = true
        ∧ State.reset.waitsHeld = true)

/-- Every step from a state whose store is in its canonical form, with only unwritten bytes being programmed, keeps
that form, keeps every written byte with its value, and never unlocks a locked record. A record becomes LOCKED only
in a step that takes a CALIBRATION LOCK, or that ends a programming during which one arrived. (01 section 1.2 (R5 to
R7).) -/
def Obligations.StoreIsWrittenOnce : Prop :=
  ∀ s t : State, s.storeOk = true → step s = .next t
    → t.storeOk = true ∧ s.store.extends t.store
      ∧ (s.store.locked = false → t.store.locked = true
          → (∃ source target inp, s.pending.head? = some (.calibrationLock source target inp))
            ∨ (s.pending.head? = some .calibrationProgrammingDone
                ∧ ∃ source target inp, .calibrationLock source target inp ∈ s.store.held))

/-- Every step keeps: a channel that is not DRIVING has duty 0, and the duty of every channel is at most what its
role request, the three caps, conflict quiet and the sensed STOP line allow at that moment. (05 section on duty
(R68, R70, R77, R78).) -/
def Obligations.DutyNeverExceedsItsInputs : Prop :=
  ∀ s t : State, s.dutyOk = true → s.boundOk = true → step s = .next t → t.dutyOk = true ∧ t.boundOk = true

/-- Every step keeps: a KNOWN channel's count lies in 0 to P_max and its class is the count's, and an UNKNOWN
channel reads 0. (05 section on position (R73).) -/
def Obligations.PlacesFollowCounts : Prop :=
  ∀ s t : State, s.placesOk = true → step s = .next t → t.placesOk = true

/-- Every step keeps: with both rams of a slide KNOWN, the band below the limit and the rack error at or beyond the
limit, the leading ram in the order's direction has applied duty 0. (08 section on squaring (R130).) -/
def Obligations.LeadingRamIsHeld : Prop :=
  ∀ s t : State, s.dutyOk = true → s.leadHeld = true → step s = .next t → t.dutyOk = true ∧ t.leadHeld = true

/-- Every step keeps: while a channel of the node is DRIVING, the travel accumulator of its order is below allowance
x 10,000. (05 section on travel (R83).) -/
def Obligations.NoDriveBeyondAllowance : Prop :=
  ∀ s t : State, s.dutyOk = true → s.travelOk = true → step s = .next t → t.dutyOk = true ∧ t.travelOk = true

/-- Every step keeps: the road alarm flag is set exactly when the PARK level is RELEASED and the node's class is not
STOWED. (11 section on the road alarm (R161).) -/
def Obligations.AlarmFollowsParkAndClass : Prop :=
  ∀ s t : State, s.alarmOk = true → step s = .next t → t.alarmOk = true

/-- Every step keeps: while PARK is taken RELEASED no order of the node extends, no channel carries an extend order,
and on a jack no session, STABLE or leg stands; before PARK has been taken the node is in START, SETUP or LOCKOUT
with neither. (11 section on road release (R160).) -/
def Obligations.NoExtensionOnTheRoad : Prop :=
  ∀ s t : State, s.roadOk = true → step s = .next t → t.roadOk = true

/-- Every step keeps: at most eight notices are queued and at most eight presses are listed; stations of the peer
table rise strictly, each is one of the fourteen motion stations, and none is the node's own. (02 section 2.4 (R30),
04 section 4.1 (R47), 03 section 3.1 (R33).) -/
def Obligations.TablesAndQueuesStayWellFormed : Prop :=
  ∀ s t : State, s.queuesOk = true → s.peersOk = true → step s = .next t → t.queuesOk = true ∧ t.peersOk = true

/-- Every step keeps: the budget cap is 0 or between 25 and 100; in every mode but LOCKOUT it is 0 without a claim
or before the claim's first decision, and at most what the admission decision gives for the claims of the peer table
as they stand; a jack or awning that drives or pauses has no passes; and the duty that the accumulator takes for the
running step is at most 100. (06 section on admission (R92, R93), 06 section on yields (R95, R96), 05 section on
duty (R77, R83).) -/
def Obligations.CapStaysWithinTheDecision : Prop :=
  ∀ s t : State, s.capOk = true → s.stepOk = true → step s = .next t → t.capOk = true ∧ t.stepOk = true

/-- Every step keeps: channels carry an order exactly while the node has one that is no session's, and a session's
order stands exactly in FOOTING to TRIM; a hold belongs to a HELD order; a leg runs in its own phase on a channel
that carries an extend order, a FOOT leg with the foot in the AIR and a lift with stroke left, and without a leg a
session's channel rests; a DRIVING channel moves in its order's direction; WATCH has no order, no claim and no own
drive; a fault recorded in a channel is of a channel kind (STALL, TRAVEL_TIME, OVERCURRENT, SUPPLY_LOW, RACK); and,
with that agreement, while TILT is listed a jack's phase is none of FOOTING to TRIM, and in STABLE its dwell does
not run. (04 sections 4.2 and 4.3 (R52, R54, R56), 05 sections on the engine and on faults (R68, R86), 07 sections
on legs and phases (R110 to R112, R117, R122), 07 sections on TILT and the dwell (R105, R120), 10 (R156), 12 section
on entry (R166).) -/
def Obligations.OrdersChannelsAndSessionsAgree : Prop :=
  (∀ s t : State, s.ordersOk = true → step s = .next t → t.ordersOk = true)
    ∧ (∀ s t : State, s.faultsOk = true → step s = .next t → t.faultsOk = true)
    ∧ (∀ s t : State, s.ordersOk = true → s.tiltOk = true → step s = .next t → t.tiltOk = true)

/-- Every step keeps: in LISTEN and RUN no ram of a slide drives under an order whose interlock fails, but for an
override order (R135, R137), and no jack drives in LIFTING or TRIM while a slide entry shows DRIVING (R115), nor in
a retract or stow whose stow wait is not met (R163). R163 names a road stow and a panel order; that a plan's retract
or stow part holds the stow wait as a panel order does (State.underStowWait) is the model's choice (DESIGN CHOICE,
log 71). (08 section on the interlock (R135, R137), 07 section on legs (R115), 11 section on the stow wait (R163).)
-/
def Obligations.RoleWaitsAreHeld : Prop :=
  ∀ s t : State, s.waitsHeld = true → step s = .next t → t.waitsHeld = true

/-- If a step takes a channel of the node from not DRIVING to DRIVING, then afterwards the node is in RUN, its
controller is not OFF, the STOP line is not sensed low, the budget cap is above 0 and the channel has no role wait.
(05 section on orders (R70), 01 section 1.4 (R11), 02 section 2.2 (R21).) -/
def Obligations.DrivingBeginsOnlyInRun : Prop :=
  ∀ (s t : State) (ch : ChanId), step s = .next t → ch ∈ t.chanIds → (s.chan ch).act ≠ .driving
    → (t.chan ch).act = .driving
    → t.node.mode = .run ∧ t.bus.err ≠ .off ∧ t.stop.sensedLow = false ∧ 0 < t.supply.cap
      ∧ (t.chan ch).roleWait = false

/-- For every station of the fourteen and every beacon of that station's role whose numbers lie in their ranges, the
tests of R34 pass on its eight bytes and the decoded contents are the beacon. (02 section 2.4 (R27), 03 section 3.1
(R34), 13 (R173).) -/
def Obligations.BeaconRoundTrip : Prop :=
  ∀ (station : Nat) (b : Beacon), b.fits = true → b.body.role = stationRole station
    → decodeBeacon station (encodeBeacon b) = some b

/-- With no programming in progress, the node then stands in START with every block at its power-on value as the
model takes it, the frames held back dropped, and the store, the record, the straps' role and station and the inputs
kept; every drive enable is inactive, every PWM low and the STOP drive released. START as the mode of a node held in
reset and class UNKNOWN before a home switch has been read are DEDUCED (logs 9 and 11), and the power-on values that
the chapters do not give are the DESIGN CHOICE of log 10. POWER_ON with NRST low records that the supply has come up
and leaves the node held in START; NRST_HIGH with the supply below range only lets NRST go. (01 section 1.1 (R1).)
-/
def Obligations.HeldInResetClearsTheNode : Prop :=
  (∀ (s : State), s.store.prog = none
        → ∃ t, exec .supplyBelowRange s = .next t
          ∧ t = { s with
              node := { s.node.restarted with vbatLow := true }, store := { s.store with held := [] },
              bus := .fresh, peers := [], orders := .fresh, chA := .fresh, chB := .fresh, step := none,
              supply := .fresh, level := .fresh, square := .fresh, wind := .fresh, stop := .fresh, road := .fresh,
              watch := .fresh } ∧ t.node.mode = .start ∧ t.drvEn .a = false ∧ t.drvEn .b = false ∧ t.drvPwm .a = 0
          ∧ t.drvPwm .b = 0 ∧ t.pullsStop = false)
    ∧ (∀ (s : State), s.store.prog = none
        → ∃ t, exec .nrstLow s = .next t
          ∧ t = { s with
              node := { s.node.restarted with nrstLow := true }, store := { s.store with held := [] },
              bus := .fresh, peers := [], orders := .fresh, chA := .fresh, chB := .fresh, step := none,
              supply := .fresh, level := .fresh, square := .fresh, wind := .fresh, stop := .fresh, road := .fresh,
              watch := .fresh } ∧ t.node.mode = .start ∧ t.drvEn .a = false ∧ t.drvEn .b = false ∧ t.drvPwm .a = 0
          ∧ t.drvPwm .b = 0 ∧ t.pullsStop = false)
    ∧ (∀ (inp : Inputs) (s : State), s.store.prog = none → s.node.nrstLow = true
        → ∃ t, exec (.powerOn inp) s = .next t
          ∧ t = { s with
              node := { s.node.restarted with vbatLow := false, supplyUp := true },
              store := { s.store with held := [] }, bus := .fresh, peers := [], orders := .fresh, chA := .fresh,
              chB := .fresh, step := none, supply := .fresh, level := .fresh, square := .fresh, wind := .fresh,
              stop := .fresh, road := .fresh, watch := .fresh } ∧ t.node.mode = .start)
    ∧ (∀ (inp : Inputs) (s : State), s.node.nrstLow = true → s.node.vbatLow = true
        → exec (.nrstHigh inp) s = .next ({ s with node := { s.node with nrstLow := false } }))

/-- SUPPLY_BELOW_RANGE, NRST_LOW and POWER_ON, with NRST low or high, end a programming in progress (that a supply
below its range counts among the stops of R7 is DEDUCED, log 14): whatever the free values, each byte of the store
is as it was or is one of the four, written with its new value; nothing else in the store changes. (01 section 1.2
(R7).) -/
def Obligations.StoppedProgrammingLeavesOldOrNew : Prop :=
  (∀ (a : Nat) (bytes : List Byte) (s : State), s.storeOk = true → s.store.prog = some (a, bytes)
        → bytes.length = 4
        → ∃ t, exec .supplyBelowRange s = .next t ∧ t.store.prog = none ∧ t.store.held = []
          ∧ t.store.locked = s.store.locked
          ∧ ∀ x : Nat, (t.store.written x = s.store.written x ∧ t.store.read x = s.store.read x)
            ∨ (s.store.written x = false ∧ (x = a ∨ x = a + 1 ∨ x = a + 2 ∨ x = a + 3) ∧ t.store.written x = true
                ∧ some (t.store.read x) = bytes[x - a]?))
    ∧ (∀ (a : Nat) (bytes : List Byte) (s : State), s.storeOk = true → s.store.prog = some (a, bytes)
        → bytes.length = 4
        → ∃ t, exec .nrstLow s = .next t ∧ t.store.prog = none ∧ t.store.held = [] ∧ t.store.locked = s.store.locked
          ∧ ∀ x : Nat, (t.store.written x = s.store.written x ∧ t.store.read x = s.store.read x)
            ∨ (s.store.written x = false ∧ (x = a ∨ x = a + 1 ∨ x = a + 2 ∨ x = a + 3) ∧ t.store.written x = true
                ∧ some (t.store.read x) = bytes[x - a]?))
    ∧ (∀ (inp : Inputs) (a : Nat) (bytes : List Byte) (s : State),
        s.storeOk = true → s.store.prog = some (a, bytes) → bytes.length = 4
        → ∃ t, exec (.powerOn inp) s = .next t ∧ t.store.prog = none ∧ t.store.held = []
          ∧ t.store.locked = s.store.locked
          ∧ ∀ x : Nat, (t.store.written x = s.store.written x ∧ t.store.read x = s.store.read x)
            ∨ (s.store.written x = false ∧ (x = a ∨ x = a + 1 ∨ x = a + 2 ∨ x = a + 3) ∧ t.store.written x = true
                ∧ some (t.store.read x) = bytes[x - a]?))

/-- With NRST high at POWER_ON, and with the supply in range at NRST_HIGH, the straps give role and station (127
where they give none), the start cause is recorded, and the node stands in LOCKOUT with cause ROLE or INDEX, in
SETUP for a record not locked, in LOCKOUT with cause CRC or FIELD, or in LISTEN with the record read. (01 section
1.1 (R1 to R3).) -/
def Obligations.StartDecidesTheMode : Prop :=
  (∀ (inp : Inputs) (s : State), s.store.prog = none → s.node.nrstLow = false
        → ∃ t, exec (.powerOn inp) s = .next t ∧ t.node.role = (decodeStraps inp).1
          ∧ t.node.station = (decodeStraps inp).2.getD 127 ∧ t.node.startCause = .powerOn
          ∧ t.store.cells = s.store.cells ∧ t.store.locked = s.store.locked ∧ t.peers = [] ∧ t.inp = inp
          ∧ ((decodeStraps inp).1 = .invalid → t.node.mode = .lockout ∧ t.node.lockout = .role)
          ∧ ((decodeStraps inp).1 ≠ .invalid → (decodeStraps inp).2 = none
              → t.node.mode = .lockout ∧ t.node.lockout = .index)
          ∧ (∀ n ∈ (decodeStraps inp).2, (decodeStraps inp).1 ≠ .invalid
              → (s.store.locked = false → t.node.mode = .setup ∧ t.node.lockout = .none)
                ∧ (s.store.locked = true → s.store.crcOk = false → t.node.mode = .lockout ∧ t.node.lockout = .crc)
                ∧ (s.store.locked = true → s.store.crcOk = true → recordValid s.store (decodeStraps inp).1 n = false
                    → t.node.mode = .lockout ∧ t.node.lockout = .field)
                ∧ (s.store.locked = true → s.store.crcOk = true → recordValid s.store (decodeStraps inp).1 n = true
                    → overheats inp = false
                    → t.node.mode = .listen ∧ t.node.listen = some 0 ∧ t.cal = readCal s.store
                      ∧ t.bus.wakeCause = t.node.startCause)))
    ∧ (∀ (inp : Inputs) (s : State), s.store.prog = none → s.node.nrstLow = true → s.node.vbatLow = false
        → ∃ t, exec (.nrstHigh inp) s = .next t ∧ t.node.role = (decodeStraps inp).1
          ∧ t.node.station = (decodeStraps inp).2.getD 127
          ∧ t.node.startCause = (if s.node.supplyUp then .powerOn else .resetPin) ∧ t.store.cells = s.store.cells
          ∧ t.store.locked = s.store.locked ∧ t.peers = [] ∧ t.inp = inp
          ∧ ((decodeStraps inp).1 = .invalid → t.node.mode = .lockout ∧ t.node.lockout = .role)
          ∧ ((decodeStraps inp).1 ≠ .invalid → (decodeStraps inp).2 = none
              → t.node.mode = .lockout ∧ t.node.lockout = .index)
          ∧ (∀ n ∈ (decodeStraps inp).2, (decodeStraps inp).1 ≠ .invalid
              → (s.store.locked = false → t.node.mode = .setup ∧ t.node.lockout = .none)
                ∧ (s.store.locked = true → s.store.crcOk = false → t.node.mode = .lockout ∧ t.node.lockout = .crc)
                ∧ (s.store.locked = true → s.store.crcOk = true → recordValid s.store (decodeStraps inp).1 n = false
                    → t.node.mode = .lockout ∧ t.node.lockout = .field)
                ∧ (s.store.locked = true → s.store.crcOk = true → recordValid s.store (decodeStraps inp).1 n = true
                    → overheats inp = false
                    → t.node.mode = .listen ∧ t.node.listen = some 0 ∧ t.cal = readCal s.store
                      ∧ t.bus.wakeCause = t.node.startCause)))

/-- A query that names the node, with no reply pending, fills the identity slot with signature, part code 430,
revision 2, role, record state, station, stored CRC as read, node mode and lockout cause; with a reply pending that
reply stands. Nothing else changes but the receive error count. (01 section 1.7 (R15), 02 section 2.4 (R32).) -/
def Obligations.QueryIsAnswered : Prop :=
  (∀ (source : Nat) (target : Byte) (s : State), s.delivers .identityQuery source = true
        → byteNames target s.node.station = true → s.bus.identity = none
        → exec (.identityQuery source target) s = .next ({ receivedWhole s with
              bus := { (receivedWhole s).bus with
                  identity := some [(match s.store.state with
                        | .blank => 0x3A#8
                        | .opened => 0x5C#8
                        | .locked => 0x9E#8), 0x01#8, 0xAE#8, byteOf (32 + 4 * roleCode s.node.role +
                          recordStateCode s.store.state), byteOf s.node.station, s.store.read 254, s.store.read 255,
                        byteOf (32 * modeCode s.node.mode + lockoutCode s.node.lockout)] } }))
    ∧ (∀ (source : Nat) (target : Byte) (s : State), s.delivers .identityQuery source = true
        → s.bus.identity.isSome = true → exec (.identityQuery source target) s = .next (receivedWhole s))

/-- In RUN or LISTEN a request that names the node, on a driver that does not overheat, leaves it in LISTEN with its
window at 0: no channel of the node carries an order, is HALTED or is FAULTED, no claim, hold, cursor or press is
left, the peer table is empty, the store, record, protection set, wind hold-off, start cause and lockout cause are
kept, and the beacons carry no wake cause. (01 section 1.8 (R16), 04 section 4.6 (R67), 03 section 3.7 (R43).) -/
def Obligations.RestartBeginsListen : Prop :=
  ∀ (source : Nat) (target : Byte) (inp : Inputs) (s : State),
    s.delivers .restartRequest source = true → s.active = true → byteNames target s.node.station = true
    → overheats inp = false
    → ∃ t, exec (.restartRequest source target inp) s = .next t ∧ t.node.mode = .listen ∧ t.node.listen = some 0
      ∧ (∀ ch ∈ t.chanIds, (t.chan ch).act = .idle) ∧ t.supply.claim = none ∧ t.orders.hold = none
      ∧ t.orders.cursor = none ∧ t.orders.presses = [] ∧ t.orders.cur = none ∧ t.orders.quiet = none ∧ t.peers = []
      ∧ s.sameRecord t ∧ t.road.inhibitA = s.road.inhibitA ∧ t.road.inhibitB = s.road.inhibitB
      ∧ t.road.lock = s.road.lock ∧ t.wind.holdOff = s.wind.holdOff ∧ t.node.startCause = s.node.startCause
      ∧ t.node.lockout = s.node.lockout ∧ t.bus.wakeCause = .none ∧ t.bus.beaconTimer = some 0
      ∧ (∀ f ∈ t.stop.faults, f.kind ≠ .duplicate)

/-- At the end of the window the node enters RUN when the supply sense is at or above V_floor, and otherwise only
marks the extension; an extended LISTEN enters RUN at a reading at or above V_droop and not below. A channel's place
is kept, or is that of a switch that reads closed where its order ends there (DEDUCED, log 62). (01 section 1.4
(R11).) -/
def Obligations.ListenEndsInRunOrExtends : Prop :=
  (∀ (s : State), s.node.mode = .listen → s.node.listen.isSome = true → s.cal.vFloor ≤ s.inp.vs
        → ∃ t, exec .listenWindowEnd s = .next t ∧ t.node.mode = .run ∧ t.node.listen = none ∧ t.orders.idle = 0
          ∧ s.sameRecord t ∧ s.samePlacesOrEnds t ∧ t.peers = s.peers)
    ∧ (∀ (s : State), s.node.mode = .listen → s.node.listen.isSome = true → s.inp.vs < s.cal.vFloor
        → exec .listenWindowEnd s = .next ({ s with node := { s.node with listen := none, extended := true } }))
    ∧ (∀ (mv : Nat) (s : State), s.node.mode = .listen → s.node.extended = true
        → ∃ t, exec (.supplySenseReading mv) s = .next t ∧ (t.node.mode = .run ↔ s.cal.vDroop ≤ mv)
          ∧ (t.node.mode = .listen ↔ mv < s.cal.vDroop) ∧ s.sameRecord t)

/-- In SETUP with CAL high, a write to the own station at an offset of at most 252 with none of its four bytes
written starts their programming and changes nothing else but the receive error count. When programming ends with no
frame held back, the four bytes read as given and are written, every other byte is as before, and nothing but the
store changes. In SETUP with CAL high, an OPEN record whose CRC matches becomes LOCKED with its bytes unchanged, the
start cause is kept, and START decides the mode from the straps: LOCKOUT FIELD for an invalid record, LISTEN with
the record read for a valid one (no OVERHEAT). (01 section 1.2 (R6, R7), 01 section 1.2 (R9), 01 section 1.1 (R1,
R3).) -/
def Obligations.WritesAndLocksTakeEffect : Prop :=
  (∀ (source : Nat) (w : CalWrite) (s : State), s.delivers .calibrationWrite source = true → s.node.mode = .setup
        → w.target.toNat = s.node.station → w.offset.toNat ≤ 252 → s.store.firstWritten w.offset.toNat = none
        → exec (.calibrationWrite source w true) s = .next ({ receivedWhole s with
              store := { s.store with prog := some (w.offset.toNat, [w.d0, w.d1, w.d2, w.d3]) } }))
    ∧ (∀ (a : Nat) (bytes : List Byte) (s : State), s.storeOk = true → s.store.prog = some (a, bytes)
        → bytes.length = 4 → s.store.held = []
        → ∃ t, exec .calibrationProgrammingDone s = .next t ∧ t = { s with store := t.store } ∧ t.store.prog = none
          ∧ t.store.locked = s.store.locked
          ∧ (∀ i : Nat, i < 4 → t.store.written (a + i) = true ∧ some (t.store.read (a + i)) = bytes[i]?)
          ∧ (∀ x : Nat, (x < a ∨ a + 4 ≤ x)
              → t.store.written x = s.store.written x ∧ t.store.read x = s.store.read x))
    ∧ (∀ (source : Nat) (target : Byte) (inp : Inputs) (s : State),
        s.delivers .calibrationLock source = true → target.toNat = s.node.station → s.node.mode = .setup
        → inp.cal = true → s.store.state = .opened → s.store.crcOk = true
        → (decodeStraps inp).2 = some s.node.station → (decodeStraps inp).1 = s.node.role → s.node.role ≠ .invalid
        → ∃ t, exec (.calibrationLock source target inp) s = .next t ∧ t.store.locked = true
          ∧ t.store.cells = s.store.cells ∧ t.node.startCause = s.node.startCause ∧ t.node.role = s.node.role
          ∧ t.node.station = s.node.station
          ∧ (recordValid s.store s.node.role s.node.station = false
              → t.node.mode = .lockout ∧ t.node.lockout = .field)
          ∧ (recordValid s.store s.node.role s.node.station = true → overheats inp = false
              → t.node.mode = .listen ∧ t.cal = readCal s.store))

/-- With room in the notice queue: a write in SETUP with CAL low, in LISTEN or in RUN, or at an offset of 253 or
more in SETUP with CAL high, is refused NOT_PERMITTED with the offset; a write that meets a written byte is refused
ALREADY_WRITTEN with the lowest such byte; a lock of a record that is not OPEN or whose CRC differs is refused
CRC_MISMATCH with the number of unwritten bytes, at most 255 (its channel node, which R9 does not give, is DESIGN
CHOICE, log 56); a lock in SETUP with CAL low, in LISTEN or in RUN is refused NOT_PERMITTED, with a detail of which
nothing is said, as the manual states none (free value, DESIGN CHOICE, log 13). A refused frame leaves everything
but the bus port as it was (and the count of free values drawn, where the manual gives no detail). (01 section 1.2
(R6, R9).) -/
def Obligations.CalibrationFramesAreRefused : Prop :=
  (∀ (source : Nat) (w : CalWrite) (cal : Bool) (s : State),
        s.delivers .calibrationWrite source = true → w.target.toNat = s.node.station
        → ((s.node.mode = .setup ∧ cal = false) ∨ s.active = true) → s.bus.notices.length < 8
        → ∃ t, exec (.calibrationWrite source w cal) s = .next t
          ∧ t = { receivedWhole s with
              bus := { (receivedWhole s).bus with
                  tx := t.bus.tx,
                  notices := s.bus.notices ++ [{
                        code := .refusal .notPermitted, chan := .node, requester := source, order := none,
                        detail := BitVec.ofNat 16 w.offset.toNat }] } })
    ∧ (∀ (source : Nat) (w : CalWrite) (s : State), s.delivers .calibrationWrite source = true
        → w.target.toNat = s.node.station → s.node.mode = .setup → 253 ≤ w.offset.toNat → s.bus.notices.length < 8
        → ∃ t, exec (.calibrationWrite source w true) s = .next t
          ∧ t = { receivedWhole s with
              bus := { (receivedWhole s).bus with
                  tx := t.bus.tx,
                  notices := s.bus.notices ++ [{
                        code := .refusal .notPermitted, chan := .node, requester := source, order := none,
                        detail := BitVec.ofNat 16 w.offset.toNat }] } })
    ∧ (∀ (source : Nat) (w : CalWrite) (n : Nat) (s : State), s.delivers .calibrationWrite source = true
        → w.target.toNat = s.node.station → s.node.mode = .setup → w.offset.toNat ≤ 252
        → s.store.firstWritten w.offset.toNat = some n → s.bus.notices.length < 8
        → ∃ t, exec (.calibrationWrite source w true) s = .next t
          ∧ t = { receivedWhole s with
              bus := { (receivedWhole s).bus with
                  tx := t.bus.tx,
                  notices := s.bus.notices ++ [{
                        code := .refusal .alreadyWritten, chan := .node, requester := source, order := none,
                        detail := BitVec.ofNat 16 n }] } } ∧ s.store.written n = true ∧ w.offset.toNat ≤ n
          ∧ n ≤ w.offset.toNat + 3 ∧ (∀ m : Nat, w.offset.toNat ≤ m → m < n → s.store.written m = false))
    ∧ (∀ (source : Nat) (target : Byte) (inp : Inputs) (s : State),
        s.delivers .calibrationLock source = true → target.toNat = s.node.station → s.node.mode = .setup
        → inp.cal = true → (s.store.state ≠ .opened ∨ s.store.crcOk = false) → s.bus.notices.length < 8
        → ∃ t, exec (.calibrationLock source target inp) s = .next t
          ∧ t = { receivedWhole s with
              bus := { (receivedWhole s).bus with
                  tx := t.bus.tx,
                  notices := s.bus.notices ++ [{
                        code := .refusal .crcMismatch, chan := .node, requester := source, order := none,
                        detail := BitVec.ofNat 16 (min s.store.unwritten 255) }] } })
    ∧ (∀ (source : Nat) (target : Byte) (inp : Inputs) (s : State),
        s.delivers .calibrationLock source = true → target.toNat = s.node.station
        → ((s.node.mode = .setup ∧ inp.cal = false) ∨ s.active = true) → s.bus.notices.length < 8
        → ∃ t, exec (.calibrationLock source target inp) s = .next t
          ∧ t = { receivedWhole s with
              bus := { (receivedWhole s).bus with
                  tx := t.bus.tx,
                  notices := s.bus.notices ++ [{
                        code := .refusal .notPermitted, chan := .node, requester := source, order := none,
                        detail := t.bus.notices.getLast?.elim 0 (·.detail) }] }, free := t.free })

/-- For the computation of R8 (polynomial x^16+x^12+x^5+1, initial value FFFFh, no final inversion, most significant
bit first), appending the CRC's high-order byte and then its low-order byte to any run of bytes gives CRC 0000h; and
the nine bytes 31h to 39h give 29B1h. (01 section 1.2 (R8).) -/
def Obligations.CrcOfItsOwnCrcIsZero : Prop :=
  (∀ l : List Byte, crc (l ++ [(crc l).extractLsb' 8 8, (crc l).extractLsb' 0 8]) = 0#16)
    ∧ crc [0x31#8, 0x32#8, 0x33#8, 0x34#8, 0x35#8, 0x36#8, 0x37#8, 0x38#8, 0x39#8] = 0x29B1#16

/-- At each arrival a jack or awning entry takes the activity field of the beacon as its peer activity, and a slide
entry the first that holds of: either ram DRIVING, WAITING, PAUSED, FAULTED, HALTED; otherwise IDLE. The beacon of a
slide carries the activity of each ram, the room's class (UNKNOWN with either ram UNKNOWN, STOWED or DEPLOYED with
both so, otherwise PARTIAL), each ram's position in per-mille (0 for an UNKNOWN ram) and count A less count B
clamped to -127 to +127 (0 with either ram UNKNOWN). (R36, R126.) -/
def Obligations.PeerActivityIsDerived : Prop :=
  (∀ old station b ph best off lim con act cls pitch roll stroke,
        b.body = .jack ph best off lim con act cls pitch roll stroke → (arrival old station b).act = act)
    ∧ (∀ old station b act cls pos wind hold src, b.body = .awning act cls pos wind hold src
        → (arrival old station b).act = act)
    ∧ (∀ old station b x y cls posA posB rack, b.body = .slide x y cls posA posB rack
        → ((x = .driving ∨ y = .driving) → (arrival old station b).act = .driving)
          ∧ ((x ≠ .driving ∧ y ≠ .driving) → (x = .waiting ∨ y = .waiting) → (arrival old station b).act = .waiting)
          ∧ ((∀ z ∈ [x, y], z ≠ .driving ∧ z ≠ .waiting) → (x = .paused ∨ y = .paused)
              → (arrival old station b).act = .paused)
          ∧ ((∀ z ∈ [x, y], z ≠ .driving ∧ z ≠ .waiting ∧ z ≠ .paused) → (x = .faulted ∨ y = .faulted)
              → (arrival old station b).act = .faulted)
          ∧ ((∀ z ∈ [x, y], z ≠ .driving ∧ z ≠ .waiting ∧ z ≠ .paused ∧ z ≠ .faulted) → (x = .halted ∨ y = .halted)
              → (arrival old station b).act = .halted)
          ∧ (x = .idle → y = .idle → (arrival old station b).act = .idle))
    ∧ (∀ s : State, s.node.role = .slide
        → s.beacon.body =
            .slide s.chA.act s.chB.act (if s.chA.cls = .unknown ∨ s.chB.cls = .unknown then .unknown
              else if s.chA.cls = .stowed ∧ s.chB.cls = .stowed then .stowed
              else if s.chA.cls = .deployed ∧ s.chB.cls = .deployed then .deployed else .partway)
              (if s.chA.cls = .unknown then 0 else 1000 * s.chA.count / s.cal.chA.pMax)
              (if s.chB.cls = .unknown then 0 else 1000 * s.chB.count / s.cal.chB.pMax)
              (if s.chA.cls = .unknown ∨ s.chB.cls = .unknown then 0
                else max (-127) (min 127 ((s.chA.count : Int) - (s.chB.count : Int)))))

/-- In LISTEN or RUN a beacon of another station whose contents pass R34 leaves that station's entry with those
contents, their activity, the old activity as previous one (none for a new entry), age 0, FRESH or, with the
retiring flag, ASLEEP, and the claim record it had; every other entry, the store, the record and the inputs are as
before. A beacon that fails the tests changes nothing but the receive error count. A channel's place is kept, or is
that of a switch that reads closed where its order ends there (DEDUCED, log 62). (03 sections 3.1 and 3.2 (R34, R35,
R38).) -/
def Obligations.BeaconReplacesTheEntry : Prop :=
  (∀ (source : Nat) (d : Data8) (b : Beacon) (s : State), s.delivers .postureBeacon source = true
        → s.active = true → source ≠ s.node.station → decodeBeacon source d = some b
        → ∃ t, exec (.postureBeacon source d) s = .next t
          ∧ findPeer t.peers source = some {
              station := source, beacon := b, act := b.body.activity, prev := (findPeer s.peers source).map (·.act),
              age := 0, fresh := if b.retiring then .asleep else .fresh,
              claim := (findPeer s.peers source).bind (·.claim) }
          ∧ (∀ st : Nat, st ≠ source → findPeer t.peers st = findPeer s.peers st) ∧ s.sameRecord t ∧ t.inp = s.inp
          ∧ s.samePlacesOrEnds t)
    ∧ (∀ (source : Nat) (d : Data8) (s : State), s.delivers .postureBeacon source = true → s.active = true
        → source ≠ s.node.station → decodeBeacon source d = none
        → exec (.postureBeacon source d) s = .next (receivedWhole s))

/-- In LISTEN or RUN with DUPLICATE clear: DUPLICATE is then listed, every channel that was WAITING, DRIVING or
PAUSED is HALTED, others keep their activity, the claim is gone, the peer table and the places are as before, and
one FAULT notice is queued where there is room. With DUPLICATE set nothing changes but the receive error count. (01
section 1.9 (R17).) -/
def Obligations.OwnStationBeaconSetsDuplicate : Prop :=
  (∀ (source : Nat) (d : Data8) (s : State), s.delivers .postureBeacon source = true → s.active = true
        → source = s.node.station → s.hasFault .duplicate = false → s.noPlan = true
        → ∃ t, exec (.postureBeacon source d) s = .next t ∧ t.hasFault .duplicate = true
          ∧ (∀ ch ∈ s.chanIds, (t.chan ch).act = if (s.chan ch).carries then .halted else (s.chan ch).act)
          ∧ t.supply.claim = none ∧ t.orders.cur = none ∧ t.peers = s.peers ∧ s.sameRecord t ∧ s.samePlaces t
          ∧ (s.bus.notices.length < 8 → ∃ n ∈ t.bus.notices, n.code = .fault .duplicate ∧ n.chan = .node))
    ∧ (∀ (source : Nat) (d : Data8) (s : State), s.delivers .postureBeacon source = true → s.active = true
        → source = s.node.station → s.hasFault .duplicate = true
        → exec (.postureBeacon source d) s = .next (receivedWhole s))

/-- In LISTEN or RUN, for another station that has an entry: a CLAIM with a defined base class becomes the record
with age 0, its yield count as the byte reads (above 3 too: DESIGN CHOICE, log 54), a RELEASE removes it; contents,
ages and every other entry are as before. Without an entry, from the own station, or with an undefined state or base
class nothing changes but the receive error count. In LISTEN or RUN: a FRESH entry whose age passes 250 ms is STALE,
a STALE one whose age passes 1000 ms is LOST, and a claim record whose age passes 250 ms stays present with its
values and no longer counts; contents, activity and every other entry are kept. One of these rows that finds the age
not past its limit, as after an arrival or a CLAIM taken first, changes nothing. A channel's place is kept, or is
that of a switch that reads closed where its order ends there (DEDUCED, log 62). (03 section 3.4 (R39), 03 sections
3.3 and 3.4 (R37, R40).) -/
def Obligations.ClaimRecordsAndAges : Prop :=
  (∀ (source : Nat) (r : DrawReq) (p : Peer) (s : State), s.delivers .drawNotice source = true → s.active = true
        → source ≠ s.node.station → findPeer s.peers source = some p → r.state = 0 → r.baseClass.toNat ≤ 3
        → ∃ t, exec (.drawNotice source r) s = .next t
          ∧ findPeer t.peers source = some { p with
              claim := some {
                  amount := r.claim.toNat, baseClass := r.baseClass.toNat, yield := r.yield.toNat, age := 0 } }
          ∧ (∀ st : Nat, st ≠ source → findPeer t.peers st = findPeer s.peers st) ∧ s.sameRecord t
          ∧ s.samePlacesOrEnds t)
    ∧ (∀ (source : Nat) (r : DrawReq) (p : Peer) (s : State), s.delivers .drawNotice source = true → s.active = true
        → source ≠ s.node.station → findPeer s.peers source = some p → r.state = 1 → r.baseClass.toNat ≤ 3
        → ∃ t, exec (.drawNotice source r) s = .next t ∧ findPeer t.peers source = some { p with claim := none }
          ∧ (∀ st : Nat, st ≠ source → findPeer t.peers st = findPeer s.peers st) ∧ s.sameRecord t
          ∧ s.samePlacesOrEnds t)
    ∧ (∀ (source : Nat) (r : DrawReq) (s : State), s.delivers .drawNotice source = true
        → (source = s.node.station ∨ findPeer s.peers source = none ∨ 1 < r.state.toNat ∨ 3 < r.baseClass.toNat)
        → exec (.drawNotice source r) s = .next (receivedWhole s))
    ∧ (∀ (station : Nat) (p : Peer) (s : State), s.active = true → findPeer s.peers station = some p
        → p.fresh = .fresh → 250 < p.age
        → ∃ t, exec (.beaconAgeStale station) s = .next t
          ∧ findPeer t.peers station = some { p with fresh := .stale }
          ∧ (∀ st : Nat, st ≠ station → findPeer t.peers st = findPeer s.peers st) ∧ s.sameRecord t
          ∧ s.samePlacesOrEnds t)
    ∧ (∀ (station : Nat) (p : Peer) (s : State), s.active = true → findPeer s.peers station = some p
        → p.fresh = .stale → 1000 < p.age
        → ∃ t, exec (.beaconAgeLost station) s = .next t
          ∧ findPeer t.peers station = some { p with fresh := .lost }
          ∧ (∀ st : Nat, st ≠ station → findPeer t.peers st = findPeer s.peers st) ∧ s.sameRecord t
          ∧ s.samePlacesOrEnds t)
    ∧ (∀ (station : Nat) (p : Peer) (c : ClaimRec) (s : State),
        s.active = true → findPeer s.peers station = some p → p.claim = some c → 250 < c.age
        → ∃ t, exec (.claimLapse station) s = .next t
          ∧ t.peers = s.peers ∧ c.counts = false ∧ s.sameRecord t ∧ s.samePlacesOrEnds t)
    ∧ (∀ (station : Nat) (p : Peer) (s : State), findPeer s.peers station = some p
        → (p.age ≤ 250 → exec (.beaconAgeStale station) s = .next s)
          ∧ (p.age ≤ 1000 → exec (.beaconAgeLost station) s = .next s))
    ∧ (∀ (station : Nat) (p : Peer) (s : State), findPeer s.peers station = some p
        → (∀ c : ClaimRec, p.claim = some c → c.age ≤ 250)
        → exec (.claimLapse station) s = .next s)

/-- Each leaves every channel that was WAITING, DRIVING or PAUSED HALTED and the others as they were, no order,
hold, cursor or claim, every press SPENT, a session in FOOTING to TRIM with phase NONE and STABLE kept, and conflict
quiet, the own drive, the fault list, the places and the peer table unchanged, and the road and wind unit too, but
that a halted wind retract sets spent and a halted road stow has its standing ENDED; the fall also sets the sensed
level LOW, and records that another source pulls when the own drive is NONE. A fall taken while the level is LOW
records another source and changes nothing else (that record, both times: DESIGN CHOICE, log 59). In LISTEN or RUN
with the sensed level LOW and no own drive, STOP_LINE_RISE leaves it HIGH, with no other source recorded, and on a
jack or slide short of its travel limit no channel at rest starts; STOP_PULSE_END releases a PULSING drive with its
first reason and changes nothing else. At the rise a channel's place is kept, or is that of a switch that reads
closed where its order ends there (DEDUCED, log 62). (04 section 4.4 (R59), 09 section on the wind retract (R143),
11 section on the road stow (R162), 10 section on the STOP line (R147, R148, R150), 10 section on the drive (R149,
R153).) -/
def Obligations.HaltsStopTheNode : Prop :=
  (∀ (r : MotionReq) (s : State), s.takes r = true
        → ∃ t, exec (.halt r) s = .next t
          ∧ (∀ ch ∈ s.chanIds, (t.chan ch).act = if (s.chan ch).carries then .halted else (s.chan ch).act)
          ∧ t.orders.cur = none ∧ t.orders.hold = none ∧ t.orders.cursor = none ∧ t.supply.claim = none
          ∧ (∀ p ∈ t.orders.presses, p.running = false) ∧ t.orders.quiet = s.orders.quiet
          ∧ t.stop.drive = s.stop.drive ∧ t.stop.faults = s.stop.faults
          ∧ (t.level.phase = if inSession s.level.phase then .none else s.level.phase) ∧ s.sameRecord t
          ∧ s.samePlaces t ∧ s.sameRoadWind t
          ∧ t.wind.spent = (s.wind.spent || decide (s.orders.cur.map (·.task) = some .windRetract))
          ∧ t.road.stow = (if s.orders.cur.map (·.task) = some .roadStow then .ended else s.road.stow)
          ∧ t.peers = s.peers ∧ t.stop.sensedLow = s.stop.sensedLow
          ∧ t.node.mode = .run)
    ∧ (∀ (source : Nat) (reason : Byte) (role : Byte) (s : State),
        s.delivers .stopCall source = true → s.active = true
        → ∃ t, exec (.stopCall source reason role) s = .next t
          ∧ (∀ ch ∈ s.chanIds, (t.chan ch).act = if (s.chan ch).carries then .halted else (s.chan ch).act)
          ∧ t.orders.cur = none ∧ t.orders.hold = none ∧ t.orders.cursor = none ∧ t.supply.claim = none
          ∧ (∀ p ∈ t.orders.presses, p.running = false) ∧ t.orders.quiet = s.orders.quiet
          ∧ t.stop.drive = s.stop.drive ∧ t.stop.faults = s.stop.faults
          ∧ (t.level.phase = if inSession s.level.phase then .none else s.level.phase) ∧ s.sameRecord t
          ∧ s.samePlaces t ∧ s.sameRoadWind t
          ∧ t.wind.spent = (s.wind.spent || decide (s.orders.cur.map (·.task) = some .windRetract))
          ∧ t.road.stow = (if s.orders.cur.map (·.task) = some .roadStow then .ended else s.road.stow)
          ∧ t.peers = s.peers ∧ t.stop.sensedLow = s.stop.sensedLow)
    ∧ (∀ (s : State), s.active = true → s.stop.sensedLow = false
        → ∃ t, exec .stopLineFall s = .next t
          ∧ (∀ ch ∈ s.chanIds, (t.chan ch).act = if (s.chan ch).carries then .halted else (s.chan ch).act)
          ∧ t.orders.cur = none ∧ t.orders.hold = none ∧ t.orders.cursor = none ∧ t.supply.claim = none
          ∧ (∀ p ∈ t.orders.presses, p.running = false) ∧ t.orders.quiet = s.orders.quiet
          ∧ t.stop.drive = s.stop.drive ∧ t.stop.faults = s.stop.faults
          ∧ (t.level.phase = if inSession s.level.phase then .none else s.level.phase) ∧ s.sameRecord t
          ∧ s.samePlaces t ∧ s.sameRoadWind t
          ∧ t.wind.spent = (s.wind.spent || decide (s.orders.cur.map (·.task) = some .windRetract))
          ∧ t.road.stow = (if s.orders.cur.map (·.task) = some .roadStow then .ended else s.road.stow)
          ∧ t.peers = s.peers ∧ t.stop.sensedLow = true
          ∧ t.inp = { s.inp with stopPulled := s.inp.stopPulled || decide (s.stop.drive = .none) })
    ∧ (∀ (s : State), s.active = true → s.noPlan = true → s.stop.sensedLow = true → s.stop.drive = .none
        → ∃ t, exec .stopLineRise s = .next t ∧ t.stop.sensedLow = false
          ∧ t.inp = { s.inp with stopPulled := false }
          ∧ (s.node.role ≠ .awning → s.shortOfTravel = true
              → ∀ ch ∈ s.chanIds, (s.chan ch).carries = false → (t.chan ch).act = (s.chan ch).act) ∧ s.sameRecord t
          ∧ s.samePlacesOrEnds t ∧ t.peers = s.peers)
    ∧ (∀ (s : State), s.stop.drive = .pulsing
        → exec .stopPulseEnd s = .next ({ s with
              stop := { s.stop with drive := .none, first := none, pulse := none } }))
    ∧ (∀ (s : State), s.active = true → s.stop.sensedLow = true
        → exec .stopLineFall s = .next ({ s with inp := { s.inp with stopPulled := true } }))

/-- On a node at rest in RUN, a new press that passes the checks of R49 leaves every channel WAITING with the
order's direction and origin (HELD by the mode field for EXTEND and RETRACT, otherwise LATCHED) and its counters at
0, the order and its RUNNING press recorded, the hold record set for a HELD order and absent for a latched one, a
claim raised with the class of the role, UNSENT, with budget cap 0 and a CLAIM notice pending; store, record,
places, peer table, road and wind unit are as before. On a node in RUN without a plan, whose running duty step holds
at most 100 (stepOk, which CapStaysWithinTheDecision keeps), whose order a new press replaces: a channel DRIVING or
PAUSED in the other direction is PAUSED in a reversal dwell of 0 ms, a PAUSED one of the same direction keeps its
pause, a WAITING one not yet admitted stays WAITING in the new direction, and an awning DRIVING in the same
direction, which the admission decision still admits, drives on; each carries the new order, its wall time, retries
and notice mark at 0, and its accumulator at 0 where no ram drives on in the new direction. With a channel so PAUSED
the new order, its hold and its RUNNING press stand, the replaced press is SPENT, and the claim goes on with the
class of the role and no new notice. A session that is replaced has phase NONE and no leg. A place said to be kept
may, where an order is replaced, be that of a switch that reads closed, where an order ends there (DEDUCED, log 62).
(04 sections 4.1 to 4.3 (R49, R52, R56), 05 (R69), 06 (R88), 04 sections 4.1 to 4.3 (R47, R52, R56, R57), 06 (R88,
R89), 07 (R122).) -/
def Obligations.AcceptedPressStartsItsOrder : Prop :=
  (∀ (r : MotionReq) (s : State), s.takes r = true → s.rests = true → s.orders.quiet = none
        → findPress (r.key .extend) s.orders.presses = none → 0 < s.allowance
        → s.check .extend (if r.runsHeld .extend then .held else .latched) (r.runsHeld .extend &&
                decide (Order.extend = .retract) && r.override) r.source = none
        → ∃ t, exec (.extend r) s = .next t
          ∧ (∀ ch ∈ s.chanIds, (t.chan ch).act = .waiting ∧ (t.chan ch).acc = 0 ∧ (t.chan ch).wall = 0
              ∧ (t.chan ch).retries = 0
              ∧ (t.chan ch).order = some {
                  origin := if r.runsHeld .extend then .held else .latched, dir := .extend, age := 0 })
          ∧ t.orders.cur = some {
              task := .extend, origin := if r.runsHeld .extend then .held else .latched, panel := r.source,
              press := some (r.key .extend),
              override := r.runsHeld .extend && decide (Order.extend = .retract) && r.override }
          ∧ t.orders.hold = (if r.runsHeld .extend then
                some { panel := r.source, order := .extend, token := r.token, age := 0 }
              else none)
          ∧ { key := r.key .extend, held := r.runsHeld .extend, running := true, age := 0 } ∈ t.orders.presses
          ∧ t.orders.idle = 0
          ∧ t.supply.claim = some {
              amount := s.claimAmount, baseClass := (if s.isJack then 1 else if s.isSlide then 2 else 3),
              standing := .unsent, settle := 0 } ∧ t.supply.cap = 0 ∧ t.bus.drawSlot = .claim
          ∧ t.bus.drawTimer = some 0 ∧ s.sameRecord t ∧ s.samePlaces t ∧ s.sameRoadWind t ∧ t.peers = s.peers
          ∧ t.inp = s.inp)
    ∧ (∀ (r : MotionReq) (s : State), s.takes r = true → s.rests = true → s.orders.quiet = none
        → findPress (r.key .retract) s.orders.presses = none → 0 < s.allowance
        → s.check .retract (if r.runsHeld .retract then .held else .latched) (r.runsHeld .retract &&
                decide (Order.retract = .retract) && r.override) r.source = none
        → ∃ t, exec (.retract r) s = .next t
          ∧ (∀ ch ∈ s.chanIds, (t.chan ch).act = .waiting ∧ (t.chan ch).acc = 0 ∧ (t.chan ch).wall = 0
              ∧ (t.chan ch).retries = 0
              ∧ (t.chan ch).order = some {
                  origin := if r.runsHeld .retract then .held else .latched, dir := .retract, age := 0 })
          ∧ t.orders.cur = some {
              task := .retract, origin := if r.runsHeld .retract then .held else .latched, panel := r.source,
              press := some (r.key .retract),
              override := r.runsHeld .retract && decide (Order.retract = .retract) && r.override }
          ∧ t.orders.hold = (if r.runsHeld .retract then
                some { panel := r.source, order := .retract, token := r.token, age := 0 }
              else none)
          ∧ { key := r.key .retract, held := r.runsHeld .retract, running := true, age := 0 } ∈ t.orders.presses
          ∧ t.orders.idle = 0
          ∧ t.supply.claim = some {
              amount := s.claimAmount, baseClass := (if s.isJack then 1 else if s.isSlide then 2 else 3),
              standing := .unsent, settle := 0 } ∧ t.supply.cap = 0 ∧ t.bus.drawSlot = .claim
          ∧ t.bus.drawTimer = some 0 ∧ s.sameRecord t ∧ s.samePlaces t ∧ s.sameRoadWind t ∧ t.peers = s.peers
          ∧ t.inp = s.inp)
    ∧ (∀ (r : MotionReq) (s : State), s.takes r = true → s.rests = true → s.orders.quiet = none
        → findPress (r.key .stow) s.orders.presses = none → 0 < s.allowance
        → s.check .stow (if r.runsHeld .stow then .held else .latched) (r.runsHeld .stow &&
                decide (Order.stow = .retract) && r.override) r.source = none
        → ∃ t, exec (.stow r) s = .next t
          ∧ (∀ ch ∈ s.chanIds, (t.chan ch).act = .waiting ∧ (t.chan ch).acc = 0 ∧ (t.chan ch).wall = 0
              ∧ (t.chan ch).retries = 0
              ∧ (t.chan ch).order = some {
                  origin := if r.runsHeld .stow then .held else .latched, dir := .retract, age := 0 })
          ∧ t.orders.cur = some {
              task := .stow, origin := if r.runsHeld .stow then .held else .latched, panel := r.source,
              press := some (r.key .stow),
              override := r.runsHeld .stow && decide (Order.stow = .retract) && r.override }
          ∧ t.orders.hold = (if r.runsHeld .stow then
                some { panel := r.source, order := .stow, token := r.token, age := 0 }
              else none)
          ∧ { key := r.key .stow, held := r.runsHeld .stow, running := true, age := 0 } ∈ t.orders.presses
          ∧ t.orders.idle = 0
          ∧ t.supply.claim = some {
              amount := s.claimAmount, baseClass := (if s.isJack then 1 else if s.isSlide then 2 else 3),
              standing := .unsent, settle := 0 } ∧ t.supply.cap = 0 ∧ t.bus.drawSlot = .claim
          ∧ t.bus.drawTimer = some 0 ∧ s.sameRecord t ∧ s.samePlaces t ∧ s.sameRoadWind t ∧ t.peers = s.peers
          ∧ t.inp = s.inp)
    ∧ (∀ (r : MotionReq) (o : CurOrder) (s : State), s.takes r = true → s.noPlan = true → s.orders.quiet = none
        → s.orders.cur = some o → s.chanIds.all (fun ch => (s.chan ch).dir.all (· = o.task.dir)) = true
        → 0 < s.allowance → s.stepOk = true → findPress (r.key .extend) s.orders.presses = none
        → ((r.runsHeld .extend = true → s.orders.hold.all (fun h => h.panel = r.source) = true)
            ∧ (r.runsHeld .extend = false → o.origin = .held ∨ o.task.dir ≠ .extend))
        → s.check .extend (if r.runsHeld .extend then .held else .latched) (r.runsHeld .extend &&
                decide (Order.extend = .retract) && r.override) r.source = none
        → ∃ t, exec (.extend r) s = .next t
          ∧ (∀ ch ∈ s.chanIds, (s.chan ch).act = .driving ∨ (s.chan ch).act = .paused
              → (s.chan ch).dir ≠ some .extend
              → (t.chan ch).act = .paused ∧ (t.chan ch).pause = some (.reversal, 0) ∧ (t.chan ch).applied = 0
                ∧ (t.chan ch).coast =
                    (if (s.chan ch).act = .driving then some ((s.chan ch).drvDir, 0) else (s.chan ch).coast)
                ∧ (t.chan ch).order = some {
                    origin := if r.runsHeld .extend then .held else .latched, dir := .extend, age := 0 }
                ∧ (t.chan ch).wall = 0 ∧ (t.chan ch).retries = 0 ∧ (t.chan ch).stallNoticed = false
                ∧ ((∀ c ∈ s.chanIds, (s.chan c).act = .driving → (s.chan c).dir ≠ some .extend)
                    → (t.chan ch).acc = 0))
          ∧ (∀ ch ∈ s.chanIds, (s.chan ch).act = .paused → (s.chan ch).dir = some .extend
              → (t.chan ch).act = .paused ∧ (t.chan ch).pause = (s.chan ch).pause
                ∧ (t.chan ch).order = some {
                    origin := if r.runsHeld .extend then .held else .latched, dir := .extend, age := 0 }
                ∧ (t.chan ch).wall = 0 ∧ (t.chan ch).retries = 0 ∧ (t.chan ch).stallNoticed = false
                ∧ ((∀ c ∈ s.chanIds, (s.chan c).act = .driving → (s.chan c).dir ≠ some .extend)
                    → (t.chan ch).acc = 0))
          ∧ (∀ ch ∈ s.chanIds, (s.chan ch).act = .waiting → s.supply.cap = 0
              → s.supply.claim.all (fun c => c.standing ≠ .decided) = true
              → (t.chan ch).act = .waiting
                ∧ (t.chan ch).order = some {
                    origin := if r.runsHeld .extend then .held else .latched, dir := .extend, age := 0 }
                ∧ (t.chan ch).wall = 0 ∧ (t.chan ch).retries = 0 ∧ (t.chan ch).stallNoticed = false
                ∧ ((∀ c ∈ s.chanIds, (s.chan c).act = .driving → (s.chan c).dir ≠ some .extend)
                    → (t.chan ch).acc = 0))
          ∧ (∀ c ∈ s.supply.claim, s.node.role = .awning → s.chA.act = .driving → s.chA.dir = some .extend
              → s.supply.passes = 0 → 0 < s.supply.cap
              → (c.standing = .decided
                  → 0 < budgetCap (s.cal.bTotal - s.aheadSum (s.ownKey { c with baseClass := 3 })) c.amount)
              → ∀ ch ∈ s.chanIds, (t.chan ch).act = .driving ∧ (t.chan ch).drvDir = s.chA.drvDir
                ∧ (t.chan ch).order = some {
                    origin := if r.runsHeld .extend then .held else .latched, dir := .extend, age := 0 }
                ∧ (t.chan ch).wall = 0 ∧ (t.chan ch).retries = 0 ∧ (t.chan ch).stallNoticed = false
                ∧ (t.chan ch).acc = 0)
          ∧ ((∃ ch ∈ s.chanIds, (s.chan ch).act = .paused
                  ∨ ((s.chan ch).act = .driving ∧ (s.chan ch).dir ≠ some .extend))
              → t.orders.cur = some {
                    task := .extend, origin := if r.runsHeld .extend then .held else .latched, panel := r.source,
                    press := some (r.key .extend),
                    override := r.runsHeld .extend && decide (Order.extend = .retract) && r.override }
                ∧ t.orders.hold = (if r.runsHeld .extend then
                      some { panel := r.source, order := .extend, token := r.token, age := 0 }
                    else none)
                ∧ { key := r.key .extend, held := r.runsHeld .extend, running := true, age := 0 } ∈ t.orders.presses
                ∧ (∀ p ∈ t.orders.presses, o.press = some p.key → p.key ≠ r.key .extend → p.running = false)
                ∧ (∀ c ∈ s.supply.claim, t.supply.claim = some { c with
                        baseClass := (if s.isJack then 1 else if s.isSlide then 2 else 3) }
                    ∧ t.bus.drawSlot = s.bus.drawSlot ∧ t.bus.drawTimer = s.bus.drawTimer))
          ∧ (o.task.session = true → t.level.phase = .none ∧ t.level.leg = none) ∧ s.sameRecord t
          ∧ s.samePlacesOrEnds t ∧ t.peers = s.peers ∧ t.inp = s.inp)
    ∧ (∀ (r : MotionReq) (o : CurOrder) (s : State), s.takes r = true → s.noPlan = true → s.orders.quiet = none
        → s.orders.cur = some o → s.chanIds.all (fun ch => (s.chan ch).dir.all (· = o.task.dir)) = true
        → 0 < s.allowance → s.stepOk = true → findPress (r.key .retract) s.orders.presses = none
        → ((r.runsHeld .retract = true → s.orders.hold.all (fun h => h.panel = r.source) = true)
            ∧ (r.runsHeld .retract = false → o.origin = .held ∨ o.task.dir ≠ .retract))
        → s.check .retract (if r.runsHeld .retract then .held else .latched) (r.runsHeld .retract &&
                decide (Order.retract = .retract) && r.override) r.source = none
        → ∃ t, exec (.retract r) s = .next t
          ∧ (∀ ch ∈ s.chanIds, (s.chan ch).act = .driving ∨ (s.chan ch).act = .paused
              → (s.chan ch).dir ≠ some .retract
              → (t.chan ch).act = .paused ∧ (t.chan ch).pause = some (.reversal, 0) ∧ (t.chan ch).applied = 0
                ∧ (t.chan ch).coast =
                    (if (s.chan ch).act = .driving then some ((s.chan ch).drvDir, 0) else (s.chan ch).coast)
                ∧ (t.chan ch).order = some {
                    origin := if r.runsHeld .retract then .held else .latched, dir := .retract, age := 0 }
                ∧ (t.chan ch).wall = 0 ∧ (t.chan ch).retries = 0 ∧ (t.chan ch).stallNoticed = false
                ∧ ((∀ c ∈ s.chanIds, (s.chan c).act = .driving → (s.chan c).dir ≠ some .retract)
                    → (t.chan ch).acc = 0))
          ∧ (∀ ch ∈ s.chanIds, (s.chan ch).act = .paused → (s.chan ch).dir = some .retract
              → (t.chan ch).act = .paused ∧ (t.chan ch).pause = (s.chan ch).pause
                ∧ (t.chan ch).order = some {
                    origin := if r.runsHeld .retract then .held else .latched, dir := .retract, age := 0 }
                ∧ (t.chan ch).wall = 0 ∧ (t.chan ch).retries = 0 ∧ (t.chan ch).stallNoticed = false
                ∧ ((∀ c ∈ s.chanIds, (s.chan c).act = .driving → (s.chan c).dir ≠ some .retract)
                    → (t.chan ch).acc = 0))
          ∧ (∀ ch ∈ s.chanIds, (s.chan ch).act = .waiting → s.supply.cap = 0
              → s.supply.claim.all (fun c => c.standing ≠ .decided) = true
              → (t.chan ch).act = .waiting
                ∧ (t.chan ch).order = some {
                    origin := if r.runsHeld .retract then .held else .latched, dir := .retract, age := 0 }
                ∧ (t.chan ch).wall = 0 ∧ (t.chan ch).retries = 0 ∧ (t.chan ch).stallNoticed = false
                ∧ ((∀ c ∈ s.chanIds, (s.chan c).act = .driving → (s.chan c).dir ≠ some .retract)
                    → (t.chan ch).acc = 0))
          ∧ (∀ c ∈ s.supply.claim, s.node.role = .awning → s.chA.act = .driving → s.chA.dir = some .retract
              → s.supply.passes = 0 → 0 < s.supply.cap
              → (c.standing = .decided
                  → 0 < budgetCap (s.cal.bTotal - s.aheadSum (s.ownKey { c with baseClass := 3 })) c.amount)
              → ∀ ch ∈ s.chanIds, (t.chan ch).act = .driving ∧ (t.chan ch).drvDir = s.chA.drvDir
                ∧ (t.chan ch).order = some {
                    origin := if r.runsHeld .retract then .held else .latched, dir := .retract, age := 0 }
                ∧ (t.chan ch).wall = 0 ∧ (t.chan ch).retries = 0 ∧ (t.chan ch).stallNoticed = false
                ∧ (t.chan ch).acc = 0)
          ∧ ((∃ ch ∈ s.chanIds, (s.chan ch).act = .paused
                  ∨ ((s.chan ch).act = .driving ∧ (s.chan ch).dir ≠ some .retract))
              → t.orders.cur = some {
                    task := .retract, origin := if r.runsHeld .retract then .held else .latched, panel := r.source,
                    press := some (r.key .retract),
                    override := r.runsHeld .retract && decide (Order.retract = .retract) && r.override }
                ∧ t.orders.hold = (if r.runsHeld .retract then
                      some { panel := r.source, order := .retract, token := r.token, age := 0 }
                    else none)
                ∧ { key := r.key .retract, held := r.runsHeld .retract, running := true, age := 0 } ∈
                    t.orders.presses
                ∧ (∀ p ∈ t.orders.presses, o.press = some p.key → p.key ≠ r.key .retract → p.running = false)
                ∧ (∀ c ∈ s.supply.claim, t.supply.claim = some { c with
                        baseClass := (if s.isJack then 1 else if s.isSlide then 2 else 3) }
                    ∧ t.bus.drawSlot = s.bus.drawSlot ∧ t.bus.drawTimer = s.bus.drawTimer))
          ∧ (o.task.session = true → t.level.phase = .none ∧ t.level.leg = none) ∧ s.sameRecord t
          ∧ s.samePlacesOrEnds t ∧ t.peers = s.peers ∧ t.inp = s.inp)
    ∧ (∀ (r : MotionReq) (o : CurOrder) (s : State), s.takes r = true → s.noPlan = true → s.orders.quiet = none
        → s.orders.cur = some o → s.chanIds.all (fun ch => (s.chan ch).dir.all (· = o.task.dir)) = true
        → 0 < s.allowance → s.stepOk = true → findPress (r.key .stow) s.orders.presses = none
        → ((r.runsHeld .stow = true → s.orders.hold.all (fun h => h.panel = r.source) = true)
            ∧ (r.runsHeld .stow = false → o.origin = .held ∨ o.task.dir ≠ .retract))
        → s.check .stow (if r.runsHeld .stow then .held else .latched) (r.runsHeld .stow &&
                decide (Order.stow = .retract) && r.override) r.source = none
        → ∃ t, exec (.stow r) s = .next t
          ∧ (∀ ch ∈ s.chanIds, (s.chan ch).act = .driving ∨ (s.chan ch).act = .paused
              → (s.chan ch).dir ≠ some .retract
              → (t.chan ch).act = .paused ∧ (t.chan ch).pause = some (.reversal, 0) ∧ (t.chan ch).applied = 0
                ∧ (t.chan ch).coast =
                    (if (s.chan ch).act = .driving then some ((s.chan ch).drvDir, 0) else (s.chan ch).coast)
                ∧ (t.chan ch).order = some {
                    origin := if r.runsHeld .stow then .held else .latched, dir := .retract, age := 0 }
                ∧ (t.chan ch).wall = 0 ∧ (t.chan ch).retries = 0 ∧ (t.chan ch).stallNoticed = false
                ∧ ((∀ c ∈ s.chanIds, (s.chan c).act = .driving → (s.chan c).dir ≠ some .retract)
                    → (t.chan ch).acc = 0))
          ∧ (∀ ch ∈ s.chanIds, (s.chan ch).act = .paused → (s.chan ch).dir = some .retract
              → (t.chan ch).act = .paused ∧ (t.chan ch).pause = (s.chan ch).pause
                ∧ (t.chan ch).order = some {
                    origin := if r.runsHeld .stow then .held else .latched, dir := .retract, age := 0 }
                ∧ (t.chan ch).wall = 0 ∧ (t.chan ch).retries = 0 ∧ (t.chan ch).stallNoticed = false
                ∧ ((∀ c ∈ s.chanIds, (s.chan c).act = .driving → (s.chan c).dir ≠ some .retract)
                    → (t.chan ch).acc = 0))
          ∧ (∀ ch ∈ s.chanIds, (s.chan ch).act = .waiting → s.supply.cap = 0
              → s.supply.claim.all (fun c => c.standing ≠ .decided) = true
              → (t.chan ch).act = .waiting
                ∧ (t.chan ch).order = some {
                    origin := if r.runsHeld .stow then .held else .latched, dir := .retract, age := 0 }
                ∧ (t.chan ch).wall = 0 ∧ (t.chan ch).retries = 0 ∧ (t.chan ch).stallNoticed = false
                ∧ ((∀ c ∈ s.chanIds, (s.chan c).act = .driving → (s.chan c).dir ≠ some .retract)
                    → (t.chan ch).acc = 0))
          ∧ (∀ c ∈ s.supply.claim, s.node.role = .awning → s.chA.act = .driving → s.chA.dir = some .retract
              → s.supply.passes = 0 → 0 < s.supply.cap
              → (c.standing = .decided
                  → 0 < budgetCap (s.cal.bTotal - s.aheadSum (s.ownKey { c with baseClass := 3 })) c.amount)
              → ∀ ch ∈ s.chanIds, (t.chan ch).act = .driving ∧ (t.chan ch).drvDir = s.chA.drvDir
                ∧ (t.chan ch).order = some {
                    origin := if r.runsHeld .stow then .held else .latched, dir := .retract, age := 0 }
                ∧ (t.chan ch).wall = 0 ∧ (t.chan ch).retries = 0 ∧ (t.chan ch).stallNoticed = false
                ∧ (t.chan ch).acc = 0)
          ∧ ((∃ ch ∈ s.chanIds, (s.chan ch).act = .paused
                  ∨ ((s.chan ch).act = .driving ∧ (s.chan ch).dir ≠ some .retract))
              → t.orders.cur = some {
                    task := .stow, origin := if r.runsHeld .stow then .held else .latched, panel := r.source,
                    press := some (r.key .stow),
                    override := r.runsHeld .stow && decide (Order.stow = .retract) && r.override }
                ∧ t.orders.hold = (if r.runsHeld .stow then
                      some { panel := r.source, order := .stow, token := r.token, age := 0 }
                    else none)
                ∧ { key := r.key .stow, held := r.runsHeld .stow, running := true, age := 0 } ∈ t.orders.presses
                ∧ (∀ p ∈ t.orders.presses, o.press = some p.key → p.key ≠ r.key .stow → p.running = false)
                ∧ (∀ c ∈ s.supply.claim, t.supply.claim = some { c with
                        baseClass := (if s.isJack then 1 else if s.isSlide then 2 else 3) }
                    ∧ t.bus.drawSlot = s.bus.drawSlot ∧ t.bus.drawTimer = s.bus.drawTimer))
          ∧ (o.task.session = true → t.level.phase = .none ∧ t.level.leg = none) ∧ s.sameRecord t
          ∧ s.samePlacesOrEnds t ∧ t.peers = s.peers ∧ t.inp = s.inp)

/-- On a node in RUN without plan, hold, quiet or order, a new press of EXTEND, RETRACT, STOW or, on a jack, LEVEL
that fails a check is entered as SPENT and, with room in the queue, noticed with that reason, its panel, its order
and its token (a LEVEL that passes checks 2 to 6 with PEER_MISSING for an expected jack that is not FRESH, and
otherwise with INTERLOCK while TILT is active); the phase, the channels keep their activity and order, and the
claim, places, peer table and record are as before. A request with the panel, order and token of a listed press,
RUN_PLAN and LEVEL among them, leaves the entry with age 0, on a node without an order renews the hold (age 0) only
when the entry is RUNNING and HELD and sends no notice; the renewal of a HELD order that an awning drives leaves the
hold with age 0 and the order, the channel's DRIVING, the claim and the notices as they were. A repeat of RUN_PLAN
leaves the cursor it started where it stands, with nothing begun. With a hold of another panel and the opposite
order, a new HELD EXTEND or RETRACT outside quiet leaves every channel that carried an order HALTED, no hold, order
or claim, the press entered as SPENT, HOLD_CONFLICT listed and, with room in the queue, noticed with the conflicting
panel as requester, the hold's order, and channel A (node on a slide), and conflict quiet timed from 0. (04 section
4.1 (R47, R49, R51), 07 section on the session (R111), 04 sections 4.1 and 4.2 (R47, R53), 04 section 4.2 (R55).) -/
def Obligations.RefusedRepeatedAndConflictingPresses : Prop :=
  (∀ (r : MotionReq) (reason : Reason) (s : State), s.delivers .motionRequest r.source = true → s.hears r = true
        → s.rests = true → s.orders.quiet = none → findPress (r.key .extend) s.orders.presses = none
        → s.bus.notices.length < 8
        → s.check .extend (if r.runsHeld .extend then .held else .latched) (r.runsHeld .extend &&
                decide (Order.extend = .retract) && r.override) r.source = some reason
        → ∃ t, exec (.extend r) s = .next t
          ∧ t.bus.notices =
              s.bus.notices ++ [{
                  code := .refusal reason, chan := if s.isSlide then .node else .a, requester := r.source,
                  order := some .extend, detail := BitVec.ofNat 16 r.token.toNat }]
          ∧ { key := r.key .extend, held := r.runsHeld .extend, running := false, age := 0 } ∈ t.orders.presses
          ∧ (∀ ch ∈ s.chanIds, (t.chan ch).act = (s.chan ch).act ∧ (t.chan ch).order = (s.chan ch).order)
          ∧ t.supply.claim = none ∧ t.orders.cur = none ∧ s.sameRecord t ∧ s.samePlaces t ∧ t.peers = s.peers)
    ∧ (∀ (r : MotionReq) (reason : Reason) (s : State), s.delivers .motionRequest r.source = true → s.hears r = true
        → s.rests = true → s.orders.quiet = none → findPress (r.key .retract) s.orders.presses = none
        → s.bus.notices.length < 8
        → s.check .retract (if r.runsHeld .retract then .held else .latched) (r.runsHeld .retract &&
                decide (Order.retract = .retract) && r.override) r.source = some reason
        → ∃ t, exec (.retract r) s = .next t
          ∧ t.bus.notices =
              s.bus.notices ++ [{
                  code := .refusal reason, chan := if s.isSlide then .node else .a, requester := r.source,
                  order := some .retract, detail := BitVec.ofNat 16 r.token.toNat }]
          ∧ { key := r.key .retract, held := r.runsHeld .retract, running := false, age := 0 } ∈ t.orders.presses
          ∧ (∀ ch ∈ s.chanIds, (t.chan ch).act = (s.chan ch).act ∧ (t.chan ch).order = (s.chan ch).order)
          ∧ t.supply.claim = none ∧ t.orders.cur = none ∧ s.sameRecord t ∧ s.samePlaces t ∧ t.peers = s.peers)
    ∧ (∀ (r : MotionReq) (reason : Reason) (s : State), s.delivers .motionRequest r.source = true → s.hears r = true
        → s.rests = true → s.orders.quiet = none → findPress (r.key .stow) s.orders.presses = none
        → s.bus.notices.length < 8
        → s.check .stow (if r.runsHeld .stow then .held else .latched) (r.runsHeld .stow &&
                decide (Order.stow = .retract) && r.override) r.source = some reason
        → ∃ t, exec (.stow r) s = .next t
          ∧ t.bus.notices =
              s.bus.notices ++ [{
                  code := .refusal reason, chan := if s.isSlide then .node else .a, requester := r.source,
                  order := some .stow, detail := BitVec.ofNat 16 r.token.toNat }]
          ∧ { key := r.key .stow, held := r.runsHeld .stow, running := false, age := 0 } ∈ t.orders.presses
          ∧ (∀ ch ∈ s.chanIds, (t.chan ch).act = (s.chan ch).act ∧ (t.chan ch).order = (s.chan ch).order)
          ∧ t.supply.claim = none ∧ t.orders.cur = none ∧ s.sameRecord t ∧ s.samePlaces t ∧ t.peers = s.peers)
    ∧ (∀ (r : MotionReq) (reason : Reason) (s : State), s.delivers .motionRequest r.source = true → s.hears r = true
        → s.isJack = true → s.rests = true → s.orders.quiet = none
        → findPress (r.key .level) s.orders.presses = none → s.bus.notices.length < 8
        → s.check .level .latched false r.source = some reason
        → ∃ t, exec (.level r) s = .next t
          ∧ t.bus.notices =
              s.bus.notices ++ [{
                  code := .refusal reason, chan := .a, requester := r.source, order := some .level,
                  detail := BitVec.ofNat 16 r.token.toNat }]
          ∧ { key := r.key .level, held := false, running := false, age := 0 } ∈ t.orders.presses
          ∧ t.level.phase = s.level.phase ∧ t.level.leg = s.level.leg ∧ t.chA.act = s.chA.act
          ∧ t.chA.order = s.chA.order ∧ t.supply.claim = none ∧ t.orders.cur = none ∧ s.sameRecord t
          ∧ s.samePlaces t ∧ t.peers = s.peers)
    ∧ (∀ (r : MotionReq) (s : State), s.delivers .motionRequest r.source = true → s.hears r = true → s.isJack = true
        → (s.missingJacks ≠ [] ∨ s.hasSensor 0xFF06#16 = true) → s.hasFault .duplicate = false
        → s.stop.sensedLow = false → s.road.park = some true → s.inhibited .extend = false → s.nodeClass ≠ .unknown
        → s.rests = true → s.orders.quiet = none → findPress (r.key .level) s.orders.presses = none
        → s.bus.notices.length < 8
        → ∃ t, exec (.level r) s = .next t
          ∧ t.bus.notices =
              s.bus.notices ++ [{
                  code := .refusal (if s.missingJacks = [] then .interlock else .peerMissing), chan := .a,
                  requester := r.source, order := some .level, detail := BitVec.ofNat 16 r.token.toNat }]
          ∧ t.level.phase = s.level.phase ∧ t.orders.cur = none)
    ∧ (∀ (r : MotionReq) (p : Press) (s : State), s.delivers .motionRequest r.source = true → s.hears r = true
        → s.noPlan = true → findPress (r.key .extend) s.orders.presses = some p → s.orders.cur = none
        → s.anyCarries = false
        → ∃ t, exec (.extend r) s = .next t ∧ { p with age := 0 } ∈ t.orders.presses
          ∧ t.orders.hold =
              (if p.running && p.held then s.orders.hold.map fun h => { h with age := 0 } else s.orders.hold)
          ∧ t.bus.notices = s.bus.notices ∧ t.orders.cur = none ∧ t.supply.claim = s.supply.claim
          ∧ (∀ ch ∈ s.chanIds, (t.chan ch).act = (s.chan ch).act) ∧ s.sameRecord t ∧ s.samePlaces t)
    ∧ (∀ (r : MotionReq) (p : Press) (s : State), s.delivers .motionRequest r.source = true → s.hears r = true
        → s.noPlan = true → findPress (r.key .retract) s.orders.presses = some p → s.orders.cur = none
        → s.anyCarries = false
        → ∃ t, exec (.retract r) s = .next t ∧ { p with age := 0 } ∈ t.orders.presses
          ∧ t.orders.hold =
              (if p.running && p.held then s.orders.hold.map fun h => { h with age := 0 } else s.orders.hold)
          ∧ t.bus.notices = s.bus.notices ∧ t.orders.cur = none ∧ t.supply.claim = s.supply.claim
          ∧ (∀ ch ∈ s.chanIds, (t.chan ch).act = (s.chan ch).act) ∧ s.sameRecord t ∧ s.samePlaces t)
    ∧ (∀ (r : MotionReq) (p : Press) (s : State), s.delivers .motionRequest r.source = true → s.hears r = true
        → s.noPlan = true → findPress (r.key .stow) s.orders.presses = some p → s.orders.cur = none
        → s.anyCarries = false
        → ∃ t, exec (.stow r) s = .next t ∧ { p with age := 0 } ∈ t.orders.presses
          ∧ t.orders.hold =
              (if p.running && p.held then s.orders.hold.map fun h => { h with age := 0 } else s.orders.hold)
          ∧ t.bus.notices = s.bus.notices ∧ t.orders.cur = none ∧ t.supply.claim = s.supply.claim
          ∧ (∀ ch ∈ s.chanIds, (t.chan ch).act = (s.chan ch).act) ∧ s.sameRecord t ∧ s.samePlaces t)
    ∧ (∀ (r : MotionReq) (p : Press) (h : Hold) (s : State), s.delivers .motionRequest r.source = true
        → s.hears r = true → s.noPlan = true → findPress (r.key .extend) s.orders.presses = some p
        → p.running = true → p.held = true → s.orders.hold = some h → h.panel = r.source → h.order = .extend
        → h.token = r.token → s.node.role = .awning → s.node.mode = .run → s.orders.cur.isSome = true
        → s.chA.act = .driving → 0 < s.supply.cap → s.windRaises = false → s.shortOfTravel = true
        → ∃ t, exec (.extend r) s = .next t ∧ t.orders.hold = some { h with age := 0 }
          ∧ { p with age := 0 } ∈ t.orders.presses ∧ t.orders.cur = s.orders.cur ∧ t.chA.act = .driving
          ∧ t.chA.order = s.chA.order ∧ t.supply.claim = s.supply.claim ∧ t.bus.notices = s.bus.notices
          ∧ s.sameRecord t ∧ s.samePlaces t)
    ∧ (∀ (r : MotionReq) (p : Press) (h : Hold) (s : State), s.delivers .motionRequest r.source = true
        → s.hears r = true → s.noPlan = true → findPress (r.key .retract) s.orders.presses = some p
        → p.running = true → p.held = true → s.orders.hold = some h → h.panel = r.source → h.order = .retract
        → h.token = r.token → s.node.role = .awning → s.node.mode = .run → s.orders.cur.isSome = true
        → s.chA.act = .driving → 0 < s.supply.cap → s.windRaises = false → s.shortOfTravel = true
        → ∃ t, exec (.retract r) s = .next t ∧ t.orders.hold = some { h with age := 0 }
          ∧ { p with age := 0 } ∈ t.orders.presses ∧ t.orders.cur = s.orders.cur ∧ t.chA.act = .driving
          ∧ t.chA.order = s.chA.order ∧ t.supply.claim = s.supply.claim ∧ t.bus.notices = s.bus.notices
          ∧ s.sameRecord t ∧ s.samePlaces t)
    ∧ (∀ (r : MotionReq) (p : Press) (s : State), s.delivers .motionRequest r.source = true → s.hears r = true
        → r.toAll = true → r.argument.toNat ≤ 3 → s.noPlan = true
        → findPress (r.key .runPlan) s.orders.presses = some p → s.orders.cur = none → s.anyCarries = false
        → ∃ t, exec (.runPlan r) s = .next t ∧ { p with age := 0 } ∈ t.orders.presses ∧ t.orders.cursor = none
          ∧ t.orders.cur = none ∧ t.bus.notices = s.bus.notices ∧ t.supply.claim = s.supply.claim
          ∧ t.level.phase = s.level.phase ∧ (∀ ch ∈ s.chanIds, (t.chan ch).act = (s.chan ch).act) ∧ s.sameRecord t
          ∧ s.samePlaces t)
    ∧ (∀ (r : MotionReq) (p : Press) (s : State), s.delivers .motionRequest r.source = true → s.hears r = true
        → s.isJack = true → s.noPlan = true → findPress (r.key .level) s.orders.presses = some p
        → s.orders.cur = none → s.anyCarries = false
        → ∃ t, exec (.level r) s = .next t ∧ { p with age := 0 } ∈ t.orders.presses ∧ t.orders.cursor = none
          ∧ t.orders.cur = none ∧ t.bus.notices = s.bus.notices ∧ t.supply.claim = s.supply.claim
          ∧ t.level.phase = s.level.phase ∧ (∀ ch ∈ s.chanIds, (t.chan ch).act = (s.chan ch).act) ∧ s.sameRecord t
          ∧ s.samePlaces t)
    ∧ (∀ (r : MotionReq) (p : Press) (c : Cursor) (st : StepCal) (s : State),
        s.delivers .motionRequest r.source = true → s.hears r = true → r.toAll = true → r.argument.toNat ≤ 3
        → s.orders.cursor = some c → findPress (r.key .runPlan) s.orders.presses = some p → c.part = .notMine
        → s.orders.cur = none → s.anyCarries = false → (s.planSteps c.plan)[c.step]? = some st
        → (s.otherTargets st).any (fun n => (s.present n).isNone) = true
        → ∃ t, exec (.runPlan r) s = .next t ∧ { p with age := 0 } ∈ t.orders.presses ∧ t.orders.cursor = some c
          ∧ t.orders.cur = none ∧ t.bus.notices = s.bus.notices
          ∧ (∀ ch ∈ s.chanIds, (t.chan ch).act = (s.chan ch).act) ∧ s.sameRecord t ∧ s.samePlaces t)
    ∧ (∀ (r : MotionReq) (h : Hold) (s : State), s.delivers .motionRequest r.source = true → s.hears r = true
        → s.noPlan = true → r.held = true → s.orders.quiet = none → s.orders.cur.isSome = true
        → s.orders.hold = some h → h.panel ≠ r.source → h.order ≠ .extend
        → findPress (r.key .extend) s.orders.presses = none
        → ∃ t, exec (.extend r) s = .next t
          ∧ (∀ ch ∈ s.chanIds, (t.chan ch).act = if (s.chan ch).carries then .halted else (s.chan ch).act)
          ∧ t.orders.hold = none ∧ t.orders.cur = none ∧ t.supply.claim = none ∧ t.orders.quiet = some 0
          ∧ t.hasFault .holdConflict = true
          ∧ { key := r.key .extend, held := true, running := false, age := 0 } ∈ t.orders.presses
          ∧ (s.bus.notices.length < 8
              → ∃ n ∈ t.bus.notices, n.code = .fault .holdConflict ∧ n.chan = (if s.isSlide then .node else .a)
                ∧ n.requester = r.source ∧ n.order = some h.order) ∧ s.sameRecord t ∧ s.samePlaces t
          ∧ t.peers = s.peers)
    ∧ (∀ (r : MotionReq) (h : Hold) (s : State), s.delivers .motionRequest r.source = true → s.hears r = true
        → s.noPlan = true → r.held = true → s.orders.quiet = none → s.orders.cur.isSome = true
        → s.orders.hold = some h → h.panel ≠ r.source → h.order ≠ .retract
        → findPress (r.key .retract) s.orders.presses = none
        → ∃ t, exec (.retract r) s = .next t
          ∧ (∀ ch ∈ s.chanIds, (t.chan ch).act = if (s.chan ch).carries then .halted else (s.chan ch).act)
          ∧ t.orders.hold = none ∧ t.orders.cur = none ∧ t.supply.claim = none ∧ t.orders.quiet = some 0
          ∧ t.hasFault .holdConflict = true
          ∧ { key := r.key .retract, held := true, running := false, age := 0 } ∈ t.orders.presses
          ∧ (s.bus.notices.length < 8
              → ∃ n ∈ t.bus.notices, n.code = .fault .holdConflict ∧ n.chan = (if s.isSlide then .node else .a)
                ∧ n.requester = r.source ∧ n.order = some h.order) ∧ s.sameRecord t ∧ s.samePlaces t
          ∧ t.peers = s.peers)

/-- On a jack at rest in RUN whose foot is in the AIR, a new LEVEL press that passes the checks leaves phase FOOTING
with a FOOT leg at request 100, channel A WAITING to extend, the session flags clear and re-lift count 0, a claim of
class 1 raised, the press RUNNING, and neither PEER_LOST nor TOO_STEEP listed. With every foot in CONTACT and a
steep consensus the session ends at its acceptance: phase NONE, no order, no leg and no claim, TOO_STEEP listed and
the press SPENT. (07 sections on the session (R111, R112), 07 sections on phases (R113), 04 (R47, R52, R56).) -/
def Obligations.AcceptedLevelBeginsASession : Prop :=
  (∀ (r : MotionReq) (s : State), s.takes r = true → s.isJack = true → s.rests = true → s.orders.quiet = none
        → s.level.contact = false → 0 < s.allowance → findPress (r.key .level) s.orders.presses = none
        → s.check .level .latched false r.source = none
        → ∃ t, exec (.level r) s = .next t ∧ t.level.phase = .footing ∧ t.level.leg = some .foot
          ∧ t.level.request = 100 ∧ t.level.bestEffort = false ∧ t.level.limit = false ∧ t.level.offLevel = false
          ∧ t.level.relift = 0 ∧ t.level.contact = false ∧ t.chA.act = .waiting
          ∧ t.chA.order = some { origin := .latched, dir := .extend, age := 0 }
          ∧ t.orders.cur = some {
              task := .level, origin := .latched, panel := r.source, press := some (r.key .level),
              override := false }
          ∧ t.supply.claim = some { amount := s.cal.chA.claim, baseClass := 1, standing := .unsent, settle := 0 }
          ∧ { key := r.key .level, held := false, running := true, age := 0 } ∈ t.orders.presses
          ∧ t.hasFault .peerLost = false ∧ t.hasFault .tooSteep = false ∧ s.sameRecord t ∧ s.samePlaces t
          ∧ s.sameSense t ∧ s.sameRoadWind t ∧ t.peers = s.peers)
    ∧ (∀ (r : MotionReq) (s : State), s.takes r = true → s.isJack = true → s.rests = true → s.orders.quiet = none
        → s.level.contact = true → s.notInContact = [] → s.steep = true → 0 < s.allowance
        → findPress (r.key .level) s.orders.presses = none → s.check .level .latched false r.source = none
        → ∃ t, exec (.level r) s = .next t ∧ t.level.phase = .none ∧ t.level.leg = none ∧ t.orders.cur = none
          ∧ t.supply.claim = none ∧ t.chA.carries = false
          ∧ { key := r.key .level, held := false, running := false, age := 0 } ∈ t.orders.presses
          ∧ t.hasFault .tooSteep = true ∧ s.sameRecord t ∧ s.samePlaces t ∧ s.sameSense t ∧ s.sameRoadWind t
          ∧ t.peers = s.peers)

/-- With no order or cursor: a new RUN_PLAN to ALL of a defined plan whose first step does not name the node and
awaits a station the node has no entry of leaves a cursor at step 0 with part NOT_MINE, the panel as requester, its
press RUNNING; an undefined plan is refused NOT_PERMITTED, with channel node and the plan number as detail. In
LISTEN or RUN, for a cursor on its step for the plan's timeout: under ABORT_PLAN the cursor is gone and a running
own part HALTED, no order left; under SKIP_STEP the cursor is gone or stands on a later step of the plan with
outcome SKIPPED. A timeout with no step of that age changes nothing. A first step that names the node, of a plan
accepted at rest: with the end state shown the part is DONE and no order begins; with an EXTEND, RETRACT or STOW
that every check passes it is RUNNING, with an order of origin PLAN, every channel WAITING in its direction, a claim
UNSENT; with the interlock as first failed check it is PENDING; with another check failed, or an action the role
does not run, it is FAILED: REFUSAL is noticed with the action and step 0 (such an action once a step), and under
ABORT_PLAN the plan ends ABORTED with PLAN_END. A jack's or awning's RUNNING retract part is DONE as its home switch
closes, the order over; one whose channel overcurrent makes FAULTED fails the step, orders and channels agreeing
(ordersOk), and under ABORT_PLAN ends the plan. A beacon after which every other target shows the end state, with
the own part DONE or NOT_MINE, moves the cursor to a later step, or, from the last, ends the plan COMPLETE or
SKIPPED. DESIGN CHOICES: a DEPLOYED, IDLE jack in an EXTEND step is DONE (the end state is looked at first), and a
barred action noticed is remembered past the plan (log 55); such an action is refused before checks 2 to 10, and a
beacon that both completes and fails a step completes it (log 34); PLAN_END's channel and order (log 56). Places are
kept but at a closed switch where an order ends (DEDUCED, log 62). (04 section 4.5 (R62, R63), 04 section 4.5 (R65,
R66), 04 section 4.5 (R62 to R66).) -/
def Obligations.PlansHoldACursorUntilTheyEnd : Prop :=
  (∀ (r : MotionReq) (st : StepCal) (s : State), s.takes r = true → r.toAll = true → r.argument.toNat ≤ 3
        → s.rests = true → s.stop.sensedLow = false → findPress (r.key .runPlan) s.orders.presses = none
        → (s.planSteps r.argument.toNat)[0]? = some st → inMask st.mask s.node.station = false
        → (s.otherTargets st).any (fun n => (s.present n).isNone) = true
        → ∃ t, exec (.runPlan r) s = .next t
          ∧ t.orders.cursor = some {
              plan := r.argument.toNat, step := 0, age := 0, part := .notMine, panel := r.source, token := r.token,
              skipped := false }
          ∧ { key := r.key .runPlan, held := false, running := true, age := 0 } ∈ t.orders.presses
          ∧ (∀ ch ∈ s.chanIds, (t.chan ch).act = (s.chan ch).act) ∧ t.bus.notices = s.bus.notices ∧ s.sameRecord t
          ∧ s.samePlaces t ∧ t.peers = s.peers)
    ∧ (∀ (r : MotionReq) (s : State), s.takes r = true → r.toAll = true → r.argument.toNat ≤ 3 → s.rests = true
        → s.stop.sensedLow = false → findPress (r.key .runPlan) s.orders.presses = none
        → s.planSteps r.argument.toNat = [] → s.bus.notices.length < 8
        → ∃ t, exec (.runPlan r) s = .next t
          ∧ t.bus.notices =
              s.bus.notices ++ [{
                  code := .refusal .notPermitted, chan := .node, requester := r.source, order := some .runPlan,
                  detail := BitVec.ofNat 16 r.argument.toNat }] ∧ t.orders.cursor = none
          ∧ { key := r.key .runPlan, held := false, running := false, age := 0 } ∈ t.orders.presses ∧ s.sameRecord t
          ∧ s.samePlaces t ∧ t.peers = s.peers)
    ∧ (∀ (c : Cursor) (s : State), s.active = true → s.orders.cursor = some c
        → (s.cal.plans[c.plan]?).any (fun p => p.timeout * 1000 ≤ c.age) = true → s.aborts c.plan = true
        → ∃ t, exec .stepTimeout s = .next t ∧ t.orders.cursor = none
          ∧ (s.orders.cur.map (·.origin) = some .plan
              → t.orders.cur = none
                ∧ ∀ ch ∈ s.chanIds, (t.chan ch).act = if (s.chan ch).carries then .halted else (s.chan ch).act)
          ∧ s.sameRecord t ∧ s.samePlacesOrEnds t ∧ t.peers = s.peers)
    ∧ (∀ (c : Cursor) (s : State), s.active = true → s.orders.cursor = some c
        → (s.cal.plans[c.plan]?).any (fun p => p.timeout * 1000 ≤ c.age) = true → s.aborts c.plan = false
        → ∃ t, exec .stepTimeout s = .next t
          ∧ (∀ c' ∈ t.orders.cursor, c'.plan = c.plan ∧ c.step < c'.step ∧ c'.skipped = true) ∧ s.sameRecord t
          ∧ s.samePlacesOrEnds t ∧ t.peers = s.peers)
    ∧ (∀ (s : State), s.orders.cursor.all (fun c =>
                !(s.cal.plans[c.plan]?).any (fun p => p.timeout * 1000 ≤ c.age)) = true
        → exec .stepTimeout s = .next s)
    ∧ (∀ (r : MotionReq) (st : StepCal) (s : State), s.takes r = true → r.toAll = true → r.argument.toNat ≤ 3
        → s.rests = true → s.stop.sensedLow = false → findPress (r.key .runPlan) s.orders.presses = none
        → (s.planSteps r.argument.toNat)[0]? = some st → inMask st.mask s.node.station = true
        → s.ownEnd (actionTask st.action) = true → (s.otherTargets st).any (fun n => (s.present n).isNone) = true
        → ∃ t, exec (.runPlan r) s = .next t
          ∧ t.orders.cursor = some {
              plan := r.argument.toNat, step := 0, age := 0, part := .done, panel := r.source, token := r.token,
              skipped := false } ∧ t.bus.notices = s.bus.notices
          ∧ (∀ ch ∈ s.chanIds, (t.chan ch).act = (s.chan ch).act) ∧ t.orders.cur = none ∧ t.supply.claim = none
          ∧ s.sameRecord t ∧ s.samePlaces t ∧ t.peers = s.peers)
    ∧ (∀ (r : MotionReq) (st : StepCal) (s : State), s.takes r = true → r.toAll = true → r.argument.toNat ≤ 3
        → s.rests = true → s.stop.sensedLow = false → findPress (r.key .runPlan) s.orders.presses = none
        → (s.planSteps r.argument.toNat)[0]? = some st → inMask st.mask s.node.station = true
        → s.ownEnd (actionTask st.action) = false → actionTask st.action ≠ .level
        → s.partBarred (actionTask st.action) = false → 0 < s.allowance
        → s.check (actionTask st.action) .plan false r.source = none
        → ∃ t, exec (.runPlan r) s = .next t
          ∧ t.orders.cursor = some {
              plan := r.argument.toNat, step := 0, age := 0, part := .running, panel := r.source, token := r.token,
              skipped := false }
          ∧ t.orders.cur = some {
              task := actionTask st.action, origin := .plan, panel := r.source, press := none, override := false }
          ∧ (∀ ch ∈ s.chanIds, (t.chan ch).act = .waiting
              ∧ (t.chan ch).order = some { origin := .plan, dir := (actionTask st.action).dir, age := 0 })
          ∧ t.supply.claim = some {
              amount := s.claimAmount, baseClass := (if s.isJack then 1 else if s.isSlide then 2 else 3),
              standing := .unsent, settle := 0 } ∧ t.bus.notices = s.bus.notices ∧ s.sameRecord t ∧ s.samePlaces t
          ∧ t.peers = s.peers)
    ∧ (∀ (r : MotionReq) (st : StepCal) (s : State), s.takes r = true → r.toAll = true → r.argument.toNat ≤ 3
        → s.rests = true → s.stop.sensedLow = false → findPress (r.key .runPlan) s.orders.presses = none
        → (s.planSteps r.argument.toNat)[0]? = some st → inMask st.mask s.node.station = true
        → s.ownEnd (actionTask st.action) = false → s.partBarred (actionTask st.action) = false
        → (s.check (actionTask st.action) .plan false r.source = some .interlock
            ∨ s.check (actionTask st.action) .plan false r.source = some .peerMissing)
        → ∃ t, exec (.runPlan r) s = .next t
          ∧ t.orders.cursor = some {
              plan := r.argument.toNat, step := 0, age := 0, part := .pending, panel := r.source, token := r.token,
              skipped := false } ∧ t.bus.notices = s.bus.notices
          ∧ (∀ ch ∈ s.chanIds, (t.chan ch).act = (s.chan ch).act) ∧ t.orders.cur = none ∧ t.supply.claim = none
          ∧ s.sameRecord t ∧ s.samePlaces t ∧ t.peers = s.peers)
    ∧ (∀ (r : MotionReq) (st : StepCal) (why : Reason) (s : State),
        s.takes r = true → r.toAll = true → r.argument.toNat ≤ 3 → s.rests = true → s.stop.sensedLow = false
        → findPress (r.key .runPlan) s.orders.presses = none → (s.planSteps r.argument.toNat)[0]? = some st
        → inMask st.mask s.node.station = true → s.ownEnd (actionTask st.action) = false
        → s.partBarred (actionTask st.action) = false
        → s.check (actionTask st.action) .plan false r.source = some why → fromInterlock why = false
        → s.aborts r.argument.toNat = true → s.bus.notices.length < 7
        → ∃ t, exec (.runPlan r) s = .next t ∧ t.orders.cursor = none
          ∧ t.bus.notices =
              s.bus.notices ++ [{
                  code := .refusal why, chan := s.orderChan, requester := r.source,
                  order := some (actionTask st.action).order, detail := 0 }, {
                  code := .event .planEnd, chan := .node, requester := r.source, order := none,
                  detail := BitVec.ofNat 16 (r.argument.toNat * 16 * 256 + 2) }]
          ∧ { key := r.key .runPlan, held := false, running := false, age := 0 } ∈ t.orders.presses
          ∧ (∀ ch ∈ s.chanIds, (t.chan ch).act = (s.chan ch).act) ∧ t.orders.cur = none ∧ t.supply.claim = none
          ∧ s.sameRecord t ∧ s.samePlaces t ∧ t.peers = s.peers)
    ∧ (∀ (r : MotionReq) (st : StepCal) (s : State), s.takes r = true → r.toAll = true → r.argument.toNat ≤ 3
        → s.rests = true → s.stop.sensedLow = false → findPress (r.key .runPlan) s.orders.presses = none
        → (s.planSteps r.argument.toNat)[0]? = some st → inMask st.mask s.node.station = true
        → s.ownEnd (actionTask st.action) = false → s.partBarred (actionTask st.action) = true
        → s.aborts r.argument.toNat = true → s.bus.notices.length < 7
        → ∃ t, exec (.runPlan r) s = .next t ∧ t.orders.cursor = none ∧ (r.argument.toNat, 0) ∈ t.orders.barred
          ∧ ((r.argument.toNat, 0) ∉ s.orders.barred
              → t.bus.notices =
                  s.bus.notices ++ [{
                      code := .refusal .notPermitted, chan := s.orderChan, requester := r.source,
                      order := some (actionTask st.action).order, detail := 0 },
                      {
                        code := .event .planEnd, chan := .node, requester := r.source, order := none,
                        detail := BitVec.ofNat 16 (r.argument.toNat * 16 * 256 + 2) }])
          ∧ ((r.argument.toNat, 0) ∈ s.orders.barred
              → t.bus.notices =
                  s.bus.notices ++ [{
                      code := .event .planEnd, chan := .node, requester := r.source, order := none,
                      detail := BitVec.ofNat 16 (r.argument.toNat * 16 * 256 + 2) }])
          ∧ (∀ ch ∈ s.chanIds, (t.chan ch).act = (s.chan ch).act) ∧ t.orders.cur = none ∧ t.supply.claim = none
          ∧ s.sameRecord t ∧ s.samePlaces t ∧ t.peers = s.peers)
    ∧ (∀ (c : Cursor) (st : StepCal) (o : CurOrder) (s : State),
        s.node.mode = .run → s.orders.cursor = some c → (s.planSteps c.plan)[c.step]? = some st
        → s.orders.cur = some o → o.origin = .plan → c.part = .running → s.isSlide = false
        → (s.isJack = true ∨ s.chA.outClosed = false) → (o.task = .retract ∨ o.task = .stow) → s.chA.carries = true
        → s.chA.dir = some .retract → (s.otherTargets st).any (fun n => (s.present n).isNone) = true
        → ∃ t, exec (.homeSwitchClose .a) s = .next t ∧ t.orders.cursor = some { c with part := .done }
          ∧ t.orders.cur = none ∧ t.supply.claim = none ∧ t.chA.act = .idle ∧ t.chA.cls = .stowed
          ∧ t.bus.notices = s.bus.notices ∧ s.sameRecord t ∧ t.peers = s.peers)
    ∧ (∀ (reading : Current) (c : Cursor) (st : StepCal) (o : CurOrder) (s : State),
        s.node.mode = .run → s.orders.cursor = some c → (s.planSteps c.plan)[c.step]? = some st
        → s.orders.cur = some o → o.origin = .plan → c.part = .running → s.isSlide = false → s.chA.carries = true
        → s.aborts c.plan = true → s.inPlan c.plan = true → s.bus.notices.length < 7
        → reading.atLeast s.cal.chA.trip = true → s.ordersOk = true
        → ∃ t, exec (.overcurrentTrip .a reading) s = .next t ∧ t.orders.cursor = none ∧ t.orders.cur = none
          ∧ t.chA.act = .faulted
          ∧ (s.bus.err ≠ .off
              → {
                  code := .event .planEnd, chan := .node, requester := c.panel, order := none,
                  detail := BitVec.ofNat 16 ((c.plan * 16 + c.step) * 256 + 2) } ∈ t.bus.notices)
          ∧ (∀ p ∈ t.orders.presses, p.key = { panel := c.panel, order := .runPlan, token := c.token }
              → p.running = false) ∧ s.sameRecord t ∧ s.samePlaces t ∧ t.peers = s.peers)
    ∧ (∀ (source : Nat) (d : Data8) (b : Beacon) (c : Cursor) (s : State),
        s.delivers .postureBeacon source = true → s.node.mode = .run → source ≠ s.node.station
        → decodeBeacon source d = some b → s.orders.cursor = some c → s.orders.cur = none → s.anyCarries = false
        → (s.isJack = false ∨ (inSession s.level.phase = false ∧ s.road.stow ≠ .heldBack))
        → (applyBeacon source b s).stepDone = true → s.bus.notices.length < 8
        → ∃ t, exec (.postureBeacon source d) s = .next t
          ∧ (c.step + 1 = (s.planSteps c.plan).length
              → t.orders.cursor = none
                ∧ (s.inPlan c.plan = true
                    → t.bus.notices =
                        s.bus.notices ++ [{
                            code := .event .planEnd, chan := .node, requester := c.panel, order := none,
                            detail := BitVec.ofNat 16 ((c.plan * 16 + c.step) * 256 +
                                  (if c.skipped = true then 1 else 0)) }])
                ∧ (∀ p ∈ t.orders.presses, p.key = { panel := c.panel, order := .runPlan, token := c.token }
                    → p.running = false))
          ∧ (c.step + 1 < (s.planSteps c.plan).length → ∀ c' ∈ t.orders.cursor, c'.plan = c.plan ∧ c.step < c'.step)
          ∧ s.sameRecord t ∧ s.samePlacesOrEnds t)

/-- On a node without a cursor or an order: every HALTED channel is then IDLE; a FAULTED channel whose recorded
fault's condition is absent is IDLE without fault and its fault is not listed; one whose condition is present stays
FAULTED with it; PEER_LOST and TOO_STEEP are not listed. With channel A FAULTED and its condition present, and room
in the queue, the CLEAR is refused CONDITION_PRESENT on channel A with that kind as detail. Where a fault recorded
in a channel is of a channel kind (faultsOk, which OrdersChannelsAndSessionsAgree keeps), a LATCHED drive is
released, with its first reason, exactly when that reason's condition is absent (for a channel kind by its test, for
any other once the kind is not listed, which PEER_LOST and TOO_STEEP no longer are); it stays, and with nothing else
found present is refused CONDITION_PRESENT on the node, when it is present; a PULSING drive stays. (10 section on
CLEAR (R155), 10 section on the drive (R154), 04 section 4.4 (R60).) -/
def Obligations.ClearTestsEachCondition : Prop :=
  (∀ (r : MotionReq) (ia : Current) (ib : Current) (s : State),
        s.takes r = true → s.rests = true
        → ∃ t, exec (.clear r ia ib) s = .next t
          ∧ (∀ ch ∈ s.chanIds, ((s.chan ch).act = .halted → (t.chan ch).act = .idle)
              ∧ ((s.chan ch).act = .faulted
                  → ∀ x ∈ (s.chan ch).fault, (s.present? (senses ia ib) x.1 (nchanOf ch) = false
                        → (t.chan ch).act = .idle ∧ (t.chan ch).fault = none
                          ∧ ∀ f ∈ t.stop.faults, ¬(f.kind = x.1 ∧ f.chan = nchanOf ch))
                    ∧ (s.present? (senses ia ib) x.1 (nchanOf ch) = true
                        → (t.chan ch).act = .faulted ∧ (t.chan ch).fault = some x))) ∧ t.hasFault .peerLost = false
          ∧ t.hasFault .tooSteep = false ∧ t.orders.presses = s.orders.presses ∧ t.orders.quiet = s.orders.quiet
          ∧ s.sameRecord t ∧ s.samePlaces t ∧ s.sameRoadWind t ∧ t.peers = s.peers)
    ∧ (∀ (r : MotionReq) (ia : Current) (ib : Current) (x : FaultKind × Half) (s : State),
        s.takes r = true → s.rests = true → s.bus.notices.length < 8 → s.chA.act = .faulted → s.chA.fault = some x
        → s.present? (senses ia ib) x.1 .a = true
        → ∃ t, exec (.clear r ia ib) s = .next t
          ∧ t.bus.notices =
              s.bus.notices ++ [{
                  code := .refusal .conditionPresent, chan := .a, requester := r.source, order := some .clear,
                  detail := BitVec.ofNat 16 (faultCode x.1) }])
    ∧ (∀ (r : MotionReq) (ia : Current) (ib : Current) (f : ActiveFault) (s : State),
        s.takes r = true → s.rests = true → s.faultsOk = true → s.stop.drive = .latched → s.stop.first = some f
        → ∃ t, exec (.clear r ia ib) s = .next t
          ∧ ((if channelKind f.kind = true then s.present? (senses ia ib) f.kind f.chan = true
                  else s.hasFault f.kind = true ∧ f.kind ≠ .peerLost ∧ f.kind ≠ .tooSteep)
              → t.stop.drive = .latched ∧ t.stop.first = some f)
          ∧ (¬ (if channelKind f.kind = true then s.present? (senses ia ib) f.kind f.chan = true
                  else s.hasFault f.kind = true ∧ f.kind ≠ .peerLost ∧ f.kind ≠ .tooSteep)
              → t.stop.drive = .none ∧ t.stop.first = none ∧ t.stop.pulse = none)
          ∧ t.inp = { s.inp with isnsA := ia, isnsB := ib } ∧ s.sameRecord t ∧ s.samePlaces t)
    ∧ (∀ (r : MotionReq) (ia : Current) (ib : Current) (f : ActiveFault) (s : State),
        s.takes r = true → s.rests = true → s.bus.notices.length < 8 → s.stop.drive = .latched
        → s.stop.first = some f → s.stop.faults.any (fun g => channelKind g.kind) = false
        → (∀ ch ∈ s.chanIds, (s.chan ch).act ≠ .faulted)
        → ((if channelKind f.kind = true then s.present? (senses ia ib) f.kind f.chan = true
              else s.hasFault f.kind = true ∧ f.kind ≠ .peerLost ∧ f.kind ≠ .tooSteep))
        → ∃ t, exec (.clear r ia ib) s = .next t
          ∧ t.bus.notices =
              s.bus.notices ++ [{
                  code := .refusal .conditionPresent, chan := .node, requester := r.source, order := some .clear,
                  detail := BitVec.ofNat 16 (faultCode f.kind) }])
    ∧ (∀ (r : MotionReq) (ia : Current) (ib : Current) (s : State),
        s.takes r = true → s.rests = true → s.stop.drive = .pulsing
        → ∃ t, exec (.clear r ia ib) s = .next t ∧ t.stop.drive = .pulsing ∧ t.stop.first = s.stop.first
          ∧ t.stop.pulse = s.stop.pulse)

/-- With all six conditions met the node is then in WATCH with its snapshot taken, the poll timer running exactly
when an entry is polled, the beacon timer stopped, the retiring beacon in the slot, the 200 ms running and every
coast window closed. Otherwise, with room in the queue and nothing to settle, it is refused BUSY with the number of
the first failed condition. In RUN, on the bus, with all six conditions of R61 met, IDLE_TIME_REACHED leaves the
node in WATCH with its snapshot and the retiring beacon. On a node at rest without a cursor, with a channel HALTED
or FAULTED, an own drive that is not NONE or a claim standing, it stays in RUN, the idle time marked as reached, its
channels as they were; so does a jack or awning without a plan, short of its travel limit, whose channel drives
under a hold, and the hold and the order stand. That condition 5 of State.sleepFails counts the node's own drive
before its fall is sensed is the model's choice (DESIGN CHOICE, log 59). (04 section 4.4 (R61), 12 section on entry
(R166, R167), 02 section 2.4 (R28), 10 (R156).) -/
def Obligations.WatchIsEnteredAtRest : Prop :=
  (∀ (r : MotionReq) (s : State), s.takes r = true → s.sleepFails = none
        → ∃ t, exec (.sleep r) s = .next t ∧ t.node.mode = .watch
          ∧ t.watch = {
              snap := s.snapshot, firstPoll := false, poll := if s.snapshot = [] then none else some 0,
              lowPause := false, tally := 0 } ∧ t.bus.beaconTimer = none
          ∧ t.bus.beaconSlot = .retiring (dataBytes (encodeBeacon { s.beacon with
                  ready := true, retiring := true, wake := .none })) ∧ t.bus.standbyTimer = some 0
          ∧ t.chA.coast = none ∧ t.chB.coast = none ∧ t.level.dwell = none ∧ t.wind.window = none
          ∧ t.wind.highRun = 0 ∧ t.wind.holdOff = s.wind.holdOff ∧ t.road = s.road ∧ t.peers = s.peers
          ∧ s.sameRecord t ∧ s.samePlaces t ∧ s.sameSense t)
    ∧ (∀ (r : MotionReq) (n : Nat) (s : State), s.takes r = true → s.sleepFails = some n → s.rests = true
        → s.bus.notices.length < 8
        → ∃ t, exec (.sleep r) s = .next t
          ∧ t.bus.notices =
              s.bus.notices ++ [{
                  code := .refusal .busy, chan := .node, requester := r.source, order := some .sleep,
                  detail := BitVec.ofNat 16 n }] ∧ t.node.mode = .run ∧ s.sameRecord t ∧ s.samePlaces t
          ∧ s.sameRoadWind t ∧ t.peers = s.peers)
    ∧ (∀ (s : State), s.node.mode = .run → s.bus.err ≠ .off → s.sleepFails = none
        → ∃ t, exec .idleTimeReached s = .next t ∧ t.node.mode = .watch ∧ t.watch.snap = s.snapshot
          ∧ t.bus.beaconTimer = none ∧ t.bus.standbyTimer = some 0 ∧ t.orders.cur = s.orders.cur
          ∧ t.bus.beaconSlot = .retiring (dataBytes (encodeBeacon { s.beacon with
                  ready := true, retiring := true, wake := .none })) ∧ t.peers = s.peers ∧ s.sameRecord t
          ∧ s.samePlaces t ∧ s.sameSense t)
    ∧ (∀ (s : State), s.node.mode = .run → s.orders.cursor.isNone = true
        → (s.supply.claim.isSome = true ∨ s.stop.drive ≠ .none
            ∨ ∃ ch ∈ s.chanIds, (s.chan ch).act = .halted ∨ (s.chan ch).act = .faulted)
        → s.anyCarries = false
        → ∃ t, exec .idleTimeReached s = .next t ∧ t.node.mode = .run ∧ t.orders.idleReached = true
          ∧ (∀ ch ∈ s.chanIds, (t.chan ch).act = (s.chan ch).act) ∧ s.sameOutside t ∧ s.samePlaces t)
    ∧ (∀ (s : State), s.node.mode = .run → s.noPlan = true → s.isSlide = false → s.orders.hold.isSome = true
        → s.chA.act = .driving → s.shortOfTravel = true
        → ∃ t, exec .idleTimeReached s = .next t ∧ t.node.mode = .run ∧ t.orders.idleReached = true
          ∧ t.orders.hold = s.orders.hold ∧ t.orders.cur = s.orders.cur ∧ s.sameOutside t ∧ s.samePlaces t)

/-- PRESS_ENTRY_LAPSE removes exactly the entry, if its last arrival is more than 250 ms old; HOLD_EXPIRY changes
nothing where the last renewal is at most 250 ms old, as after a repeat taken first; else it removes the hold, its
press entry and the order, leaves every channel that carried an order IDLE and the claim gone; CONFLICT_QUIET_END
ends quiet and HOLD_CONFLICT. At the end of a reversal dwell, and of a retry pause, a PAUSED channel of a node in
LISTEN or RUN without a plan, without passes and short of its travel limit has no pause: with a budget cap of 0 it
is WAITING; an awning that may drive its retract, its home switch open, is DRIVING in that direction with its stall
timer at 0. Places and the road alarm are kept, or follow a switch that reads closed where an order ends there
(DEDUCED, log 62). (04 sections 4.1 and 4.2 (R47, R53, R55), 05 sections on orders and stalls (R70, R81), 04 section
4.3 (R57).) -/
def Obligations.OrderTimersAndPausesEnd : Prop :=
  (∀ (key : PressKey) (s : State), s.active = true
        → exec (.pressEntryLapse key) s = .next ({ s with
              orders := { s.orders with
                  presses := s.orders.presses.filter fun p => p.key ≠ key || p.age ≤ 250 } }))
    ∧ (∀ (s : State), (∀ h : Hold, s.orders.hold = some h → h.age ≤ 250) → exec .holdExpiry s = .next s)
    ∧ (∀ (h : Hold) (s : State), s.active = true → s.noPlan = true → s.orders.hold = some h → 250 < h.age
        → ∃ t, exec .holdExpiry s = .next t ∧ t.orders.hold = none ∧ t.orders.cur = none ∧ t.supply.claim = none
          ∧ (∀ ch ∈ s.chanIds, (t.chan ch).act = if (s.chan ch).carries then .idle else (s.chan ch).act)
          ∧ (∀ p ∈ t.orders.presses, p.key ≠ { panel := h.panel, order := h.order, token := h.token })
          ∧ t.bus.notices = s.bus.notices ∧ t.stop.faults = s.stop.faults ∧ s.sameRecord t ∧ s.samePlaces t
          ∧ s.sameRoadWind t ∧ t.peers = s.peers)
    ∧ (∀ (s : State), s.active = true → s.noPlan = true → s.orders.quiet.isSome = true
        → ∃ t, exec .conflictQuietEnd s = .next t ∧ t.orders.quiet = none ∧ t.hasFault .holdConflict = false
          ∧ s.sameOutsideOrEnds t ∧ t.inp = s.inp)
    ∧ (∀ (ch : ChanId) (s : State), s.active = true → s.noPlan = true → s.hasChan ch = true
        → (s.chan ch).act = .paused → (s.chan ch).pause.map (·.1) = some .retry → s.shortOfTravel = true
        → s.supply.passes = 0
        → ∃ t, exec (.retryPauseEnd ch) s = .next t ∧ (t.chan ch).pause = none ∧ (t.chan ch).act ≠ .paused
          ∧ (s.supply.cap = 0 → (t.chan ch).act = .waiting)
          ∧ (s.node.role = .awning → s.node.mode = .run → s.bus.err ≠ .off → 0 < s.supply.cap
              → s.stop.sensedLow = false → ch = .a → s.chA.order.map (·.dir) = some .retract
              → s.homeReads .a = false → t.chA.act = .driving ∧ t.chA.drvDir = .retract ∧ t.chA.stall = some 0)
          ∧ s.sameOutsideOrEnds t
          ∧ (s.isJack = false → s.wind.highRun < 3 ∨ s.chA.cls ≠ .stowed
              → (t.chan ch).retries = (s.chan ch).retries))
    ∧ (∀ (ch : ChanId) (s : State), s.active = true → s.noPlan = true → s.hasChan ch = true
        → (s.chan ch).act = .paused → (s.chan ch).pause.map (·.1) = some .reversal → s.shortOfTravel = true
        → s.supply.passes = 0
        → ∃ t, exec .reversalDwellEnd s = .next t ∧ (t.chan ch).pause = none ∧ (t.chan ch).act ≠ .paused
          ∧ (s.supply.cap = 0 → (t.chan ch).act = .waiting)
          ∧ (s.node.role = .awning → s.node.mode = .run → s.bus.err ≠ .off → 0 < s.supply.cap
              → s.stop.sensedLow = false → ch = .a → s.chA.order.map (·.dir) = some .retract
              → s.homeReads .a = false → t.chA.act = .driving ∧ t.chA.drvDir = .retract ∧ t.chA.stall = some 0)
          ∧ s.sameOutsideOrEnds t
          ∧ (s.isJack = false → s.wind.highRun < 3 ∨ s.chA.cls ≠ .stowed
              → (t.chan ch).retries = (s.chan ch).retries))

/-- When the controller may send and something is pending, the frame in flight has the lowest pending kind, the
identifier kind x 128 + station and the data that kind's slot gives; nothing else changes. A beacon's data, and a
CLAIM's with its amount, base class and yield count, are composed from the state at that moment; a RELEASE carries
the values its slot holds, which are those of the claim as it ended (DESIGN CHOICE for the yield count, log 58). For
a frame in flight that its slot still holds, in a mode other than WATCH: a completed NOTICE leaves the head of the
queue, a STOP CALL, a CLAIM, a RELEASE, a beacon, a WAKE CALL and an IDENTITY REPLY their slots, and nothing else
changes but the transmit count, which falls by 1 (not below 0), the error state, the wake cause and the start cause,
each cleared by the beacon that carried it and by no other (that its completion clears the start cause is DEDUCED,
log 21), and the claim: a first CLAIM notice begins its settle window. In WATCH before standby the retiring beacon
or the last notice that completes with nothing else pending takes the transceiver to standby, with every slot empty;
with something still pending the node stays before standby. (02 sections 2.1 and 2.4 (R18, R19, R25), 02 sections
2.1, 2.2 and 2.4 (R19, R20, R25, R28, R31, R32), 06 section on the settle window (R90).) -/
def Obligations.FramesAreSentByKind : Prop :=
  (∀ (k : Kind) (s : State), s.maySend = true → s.bus.nextKind = some k
        → ∃ t, exec .transmitStart s = .next t
          ∧ t = { s with
              bus := { s.bus with
                  tx := some {
                      kind := k.code, ident := k.code * 128 + s.node.station, data := s.compose k, live := true } } }
          ∧ (k = .postureBeacon → s.bus.beaconSlot = .pending → s.compose k = dataBytes (encodeBeacon s.beacon))
          ∧ (k = .drawNotice
              → s.compose k =
                  (match s.bus.drawSlot, s.supply.claim with
                    | .release amount baseClass yield, _ => [1, byteOf amount, byteOf baseClass, byteOf yield]
                    | .claim, some c => [0, byteOf c.amount, byteOf c.baseClass, byteOf (min 3 s.supply.passes)]
                    | _, _ => [])) ∧ (s.bus.stopCall.isSome = true → k = .stopCall)
          ∧ (k ≠ .stopCall → s.bus.drawSlot ≠ .empty → k = .drawNotice)
          ∧ (k ≠ .stopCall → k ≠ .drawNotice → s.bus.beaconSlot ≠ .empty → k = .postureBeacon)
          ∧ (k.code > 4 → s.bus.notices ≠ [] → k = .notice)
          ∧ (k.code > 5 → s.bus.wakeCall.isSome = true → k = .wakeCall))
    ∧ (∀ (x : Tx) (s : State), s.bus.tx = some x → x.live = true → x.kind = 5 → s.node.mode ≠ .watch
        → exec .transmitComplete s = .next ({ s with
              bus := { s.bus with
                  tx := none, txErrors := s.bus.txErrors - 1, notices := s.bus.notices.tail,
                  err := (if s.bus.err = .off then .off
                      else if s.bus.err = .notJoined then .notJoined
                      else if 128 ≤ s.bus.txErrors - 1 ∨ 128 ≤ s.bus.rxErrors then .passive else .active) } }))
    ∧ (∀ (x : Tx) (c : Claim) (s : State), s.bus.tx = some x → x.live = true → x.kind = 1 → x.data.head? = some 0
        → s.supply.claim = some c → s.node.mode ≠ .watch
        → exec .transmitComplete s = .next ({ s with
              bus := { s.bus with
                  tx := none, txErrors := s.bus.txErrors - 1, drawSlot := .empty,
                  err := (if s.bus.err = .off then .off
                      else if s.bus.err = .notJoined then .notJoined
                      else if 128 ≤ s.bus.txErrors - 1 ∨ 128 ≤ s.bus.rxErrors then .passive else .active) },
              supply := { s.supply with
                  claim := some (if c.standing = .unsent then { c with standing := .settling, settle := 0 }
                      else c) } }))
    ∧ (∀ (x : Tx) (s : State), s.bus.tx = some x → x.live = true → x.kind = 1 → x.data.head? ≠ some 0
        → s.node.mode ≠ .watch
        → exec .transmitComplete s = .next ({ s with
              bus := { s.bus with
                  tx := none, txErrors := s.bus.txErrors - 1, drawSlot := .empty,
                  err := (if s.bus.err = .off then .off
                      else if s.bus.err = .notJoined then .notJoined
                      else if 128 ≤ s.bus.txErrors - 1 ∨ 128 ≤ s.bus.rxErrors then .passive else .active) } }))
    ∧ (∀ (x : Tx) (s : State), s.bus.tx = some x → x.live = true → x.kind = 4 → s.node.mode ≠ .watch
        → exec .transmitComplete s = .next ({ s with
              bus := { s.bus with
                  tx := none, txErrors := s.bus.txErrors - 1, beaconSlot := .empty,
                  err := (if s.bus.err = .off then .off
                      else if s.bus.err = .notJoined then .notJoined
                      else if 128 ≤ s.bus.txErrors - 1 ∨ 128 ≤ s.bus.rxErrors then .passive else .active),
                  wakeCause := if (x.data.getD 1 0).toNat / 16 ≠ 0
                        ∧ (x.data.getD 1 0).toNat / 16 = wakeCode s.bus.wakeCause then .none
                    else s.bus.wakeCause },
              node := { s.node with
                  startCause := if (x.data.getD 1 0).toNat / 16 ≠ 0
                        ∧ (x.data.getD 1 0).toNat / 16 = wakeCode s.node.startCause then .none
                    else s.node.startCause } }))
    ∧ (∀ (x : Tx) (s : State), s.bus.tx = some x → x.live = true → x.kind = 0 → s.node.mode ≠ .watch
        → exec .transmitComplete s = .next ({ s with
              bus := { s.bus with
                  tx := none, txErrors := s.bus.txErrors - 1, stopCall := none,
                  err := (if s.bus.err = .off then .off
                      else if s.bus.err = .notJoined then .notJoined
                      else if 128 ≤ s.bus.txErrors - 1 ∨ 128 ≤ s.bus.rxErrors then .passive else .active) } }))
    ∧ (∀ (x : Tx) (s : State), s.bus.tx = some x → x.live = true → x.kind = 6 → s.node.mode ≠ .watch
        → exec .transmitComplete s = .next ({ s with
              bus := { s.bus with
                  tx := none, txErrors := s.bus.txErrors - 1, wakeCall := none,
                  err := (if s.bus.err = .off then .off
                      else if s.bus.err = .notJoined then .notJoined
                      else if 128 ≤ s.bus.txErrors - 1 ∨ 128 ≤ s.bus.rxErrors then .passive else .active) } }))
    ∧ (∀ (x : Tx) (s : State), s.bus.tx = some x → x.live = true → x.kind = 9 → s.node.mode ≠ .watch
        → exec .transmitComplete s = .next ({ s with
              bus := { s.bus with
                  tx := none, txErrors := s.bus.txErrors - 1, identity := none,
                  err := (if s.bus.err = .off then .off
                      else if s.bus.err = .notJoined then .notJoined
                      else if 128 ≤ s.bus.txErrors - 1 ∨ 128 ≤ s.bus.rxErrors then .passive else .active) } }))
    ∧ (∀ (x : Tx) (s : State), s.bus.tx = some x → x.live = true → x.kind = 4 → s.node.mode = .watch
        → s.bus.standby = false → s.bus.stopCall = none → s.bus.drawSlot = .empty → s.bus.notices = []
        → s.bus.wakeCall = none → s.bus.identity = none
        → exec .transmitComplete s = .next ({ s with
              bus := { s.bus with
                  tx := none, txErrors := s.bus.txErrors - 1,
                  err := (if s.bus.err = .off then .off
                      else if s.bus.err = .notJoined then .notJoined
                      else if 128 ≤ s.bus.txErrors - 1 ∨ 128 ≤ s.bus.rxErrors then .passive else .active),
                  standby := true, standbyTimer := none, beaconTimer := none, beaconSlot := .empty,
                  drawSlot := .empty, drawTimer := none, notices := [], stopCall := none, wakeCall := none,
                  identity := none,
                  wakeCause := if (x.data.getD 1 0).toNat / 16 ≠ 0
                        ∧ (x.data.getD 1 0).toNat / 16 = wakeCode s.bus.wakeCause then .none
                    else s.bus.wakeCause },
              node := { s.node with
                  startCause := if (x.data.getD 1 0).toNat / 16 ≠ 0
                        ∧ (x.data.getD 1 0).toNat / 16 = wakeCode s.node.startCause then .none
                    else s.node.startCause } }))
    ∧ (∀ (x : Tx) (s : State), s.bus.tx = some x → x.live = true → x.kind = 5 → s.node.mode = .watch
        → s.bus.standby = false → s.bus.stopCall = none → s.bus.drawSlot = .empty
        → (s.bus.notices.tail = [] ∧ s.bus.beaconSlot = .empty) → s.bus.wakeCall = none → s.bus.identity = none
        → exec .transmitComplete s = .next ({ s with
              bus := { s.bus with
                  tx := none, txErrors := s.bus.txErrors - 1,
                  err := (if s.bus.err = .off then .off
                      else if s.bus.err = .notJoined then .notJoined
                      else if 128 ≤ s.bus.txErrors - 1 ∨ 128 ≤ s.bus.rxErrors then .passive else .active),
                  standby := true, standbyTimer := none, beaconTimer := none, beaconSlot := .empty,
                  drawSlot := .empty, drawTimer := none, notices := [], stopCall := none, wakeCall := none,
                  identity := none }, node := s.node }))
    ∧ (∀ (x : Tx) (s : State), s.bus.tx = some x → x.live = true → x.kind = 4 → s.node.mode = .watch
        → (s.bus.stopCall.isSome = true ∨ s.bus.drawSlot ≠ .empty ∨ s.bus.notices ≠ []
            ∨ s.bus.wakeCall.isSome = true ∨ s.bus.identity.isSome = true)
        → exec .transmitComplete s = .next ({ s with
              bus := { s.bus with
                  tx := none, txErrors := s.bus.txErrors - 1, beaconSlot := .empty,
                  err := (if s.bus.err = .off then .off
                      else if s.bus.err = .notJoined then .notJoined
                      else if 128 ≤ s.bus.txErrors - 1 ∨ 128 ≤ s.bus.rxErrors then .passive else .active),
                  wakeCause := if (x.data.getD 1 0).toNat / 16 ≠ 0
                        ∧ (x.data.getD 1 0).toNat / 16 = wakeCode s.bus.wakeCause then .none
                    else s.bus.wakeCause },
              node := { s.node with
                  startCause := if (x.data.getD 1 0).toNat / 16 ≠ 0
                        ∧ (x.data.getD 1 0).toNat / 16 = wakeCode s.node.startCause then .none
                    else s.node.startCause } }))

/-- Outside OFF: a failed own frame stays pending and adds 8 to the transmit count (nothing for a missing
acknowledgement while PASSIVE, up to a count of 255) as long as it does not pass 255; an error in reception adds 1
up to 255; a frame that fails acceptance, that no block takes or that is a MOTION REQUEST with an undefined order is
received whole and takes 1 off; lost arbitration only ends the attempt. The state is ACTIVE while both counts are
below 128 and PASSIVE otherwise. (02 sections 2.1, 2.2 and 2.3 (R19, R20, R23).) -/
def Obligations.ErrorCountsAndStates : Prop :=
  (∀ (e : TxError) (s : State), s.bus.tx.isSome = true → s.bus.err ≠ .off
        → (s.bus.txErrors ≤ 247 ∨ (e = .noAck ∧ s.bus.err = .passive ∧ s.bus.txErrors ≤ 255))
        → exec (.transmitError e) s = .next ({ s with
              bus := { s.bus with
                  tx := none, txErrors := s.bus.txErrors + (if e = .noAck ∧ s.bus.err = .passive then 0 else 8),
                  err := (if s.bus.err = .notJoined then .notJoined
                      else if 128 ≤ s.bus.txErrors + (if e = .noAck ∧ s.bus.err = .passive then 0 else 8)
                          ∨ 128 ≤ s.bus.rxErrors then .passive
                      else .active) } }))
    ∧ (∀ (s : State), s.node.mode ≠ .start → s.bus.err ≠ .off → s.bus.standby = false
        → exec .receiveError s = .next ({ s with
              bus := { s.bus with
                  rxErrors := min 255 (s.bus.rxErrors + 1),
                  err := (if s.bus.err = .notJoined then .notJoined
                      else if 128 ≤ s.bus.txErrors ∨ 128 ≤ min 255 (s.bus.rxErrors + 1) then .passive
                      else .active) } }))
    ∧ (∀ (f : RawFrame) (s : State), ownRow f = false → s.node.mode ≠ .start
        → (s.node.mode ≠ .watch ∨ s.bus.standby = false) → s.bus.err ≠ .off
        → exec (.frameNotTaken f) s = .next ({ s with
              bus := { s.bus with
                  rxErrors := s.bus.rxErrors - 1,
                  err := (if s.bus.err = .notJoined then .notJoined
                      else if 128 ≤ s.bus.txErrors ∨ 128 ≤ s.bus.rxErrors - 1 then .passive else .active) } }))
    ∧ (∀ (s : State), exec .arbitrationLost s = .next ({ s with bus := { s.bus with tx := none } }))

/-- In RUN or LISTEN, a failure that takes the count above 255 leaves the controller OFF with its off period at 0,
every slot and the queue empty and their timers stopped, every channel that carried an order HALTED, no claim,
cursor or order, no window, and mode, faults, STOP drive, places, peer table, protection set and hold-off as they
were. At the end of the off period the controller waits for bus idle. At the rejoin both counts are 0 and the state
ACTIVE; a node in RUN or LISTEN (no OVERHEAT) is then in LISTEN with wake cause BUS_RECOVERY, its window at 0, an
empty peer table and press list, and record and hold-off kept; in SETUP or LOCKOUT nothing else changes. (02 section
2.2 (R20, R21), 02 section 2.2 (R22), 03 section 3.7 (R43), 04 section 4.6 (R67).) -/
def Obligations.BusOffAndRejoin : Prop :=
  (∀ (s : State), s.active = true → s.bus.tx.isSome = true → (s.bus.err = .active ∨ s.bus.err = .passive)
        → 247 < s.bus.txErrors
        → ∃ t, exec (.transmitError .signalled) s = .next t ∧ t.bus.err = .off ∧ t.bus.offTimer = some 0
          ∧ t.bus.notices = [] ∧ t.bus.beaconSlot = .empty ∧ t.bus.drawSlot = .empty ∧ t.bus.stopCall = none
          ∧ t.bus.wakeCall = none ∧ t.bus.identity = none ∧ t.bus.tx = none ∧ t.bus.beaconTimer = none
          ∧ t.bus.drawTimer = none
          ∧ (∀ ch ∈ s.chanIds, (t.chan ch).act = if (s.chan ch).carries then .halted else (s.chan ch).act)
          ∧ t.supply.claim = none ∧ t.orders.cur = none ∧ t.orders.hold = none ∧ t.orders.cursor = none
          ∧ t.node.listen = none ∧ t.node.mode = s.node.mode ∧ t.stop = s.stop ∧ t.road.inhibitA = s.road.inhibitA
          ∧ t.road.inhibitB = s.road.inhibitB ∧ t.road.lock = s.road.lock ∧ t.wind.holdOff = s.wind.holdOff
          ∧ t.peers = s.peers ∧ s.sameRecord t ∧ s.samePlaces t)
    ∧ (∀ (s : State), s.bus.err = .off → s.bus.offTimer.isSome = true
        → exec .offPeriodEnd s = .next ({ s with bus := { s.bus with offTimer := none, awaitIdle := true } }))
    ∧ (∀ (inp : Inputs) (s : State), s.active = true → s.bus.err = .off → s.bus.awaitIdle = true
        → overheats inp = false
        → ∃ t, exec (.busRejoin inp) s = .next t ∧ t.node.mode = .listen ∧ t.node.listen = some 0
          ∧ t.bus.err = .active ∧ t.bus.txErrors = 0 ∧ t.bus.rxErrors = 0 ∧ t.bus.wakeCause = .busRecovery
          ∧ t.bus.beaconTimer = some 0 ∧ t.peers = [] ∧ t.orders.presses = [] ∧ t.orders.quiet = none
          ∧ s.sameRecord t ∧ t.wind.holdOff = s.wind.holdOff ∧ t.inp = inp)
    ∧ (∀ (inp : Inputs) (s : State), s.active = false → s.bus.err = .off → s.bus.awaitIdle = true
        → exec (.busRejoin inp) s = .next ({ s with
              bus := { s.bus with
                  err := .active, txErrors := 0, rxErrors := 0, offTimer := none, awaitIdle := false } }))

/-- When a beacon falls due an empty slot is filled and a filled one is left, and its timer starts again; the same
for a CLAIM while the claim stands. 200 ms after WATCH entry the transceiver goes to standby and everything pending
is discarded. With fewer than eight queued a notice joins the tail. With eight: one that reports no fault is
discarded, and a fault displaces the newest that reports none, or is discarded where all report faults. (02 section
2.4 (R26, R28, R29), 02 section 2.4 (R30).) -/
def Obligations.SlotsAndQueueFillAsDue : Prop :=
  (∀ (s : State), s.bus.beaconTimer.isSome = true
        → exec .beaconDue s = .next ({ s with
              bus := { s.bus with
                  beaconTimer := some 0,
                  beaconSlot := if s.bus.beaconSlot = .empty then .pending else s.bus.beaconSlot } }))
    ∧ (∀ (s : State), s.bus.drawTimer.isSome = true → s.supply.claim.isSome = true
        → exec .drawNoticeDue s = .next ({ s with
              bus := { s.bus with
                  drawTimer := some 0, drawSlot := if s.bus.drawSlot = .empty then .claim else s.bus.drawSlot } }))
    ∧ (∀ (s : State), s.node.mode = .watch → s.bus.standbyTimer.isSome = true
        → ∃ t, exec .standbyTimeout s = .next t ∧ t.bus.notices = [] ∧ t.bus.beaconSlot = .empty
          ∧ t.bus.drawSlot = .empty ∧ t.bus.stopCall = none ∧ t.bus.wakeCall = none ∧ t.bus.identity = none
          ∧ t.bus.tx = none ∧ t.bus.beaconTimer = none ∧ t.bus.drawTimer = none ∧ t.bus.standby = true
          ∧ t.bus.standbyTimer = none ∧ t.bus.err = s.bus.err ∧ t.bus.txErrors = s.bus.txErrors
          ∧ t = { s with bus := t.bus })
    ∧ ((∀ (n : Notice) (q : List Notice), q.length < 8 → queueNotice n q = q ++ [n])
        ∧ (∀ (n : Notice) (q : List Notice), 8 ≤ q.length → n.isFault = false → queueNotice n q = q)
        ∧ (∀ (n : Notice) (q : List Notice), 8 ≤ q.length → (∀ m ∈ q, m.isFault = true) → queueNotice n q = q)
        ∧ (∀ (n m : Notice) (l r : List Notice), 8 ≤ (l ++ m :: r).length → n.isFault = true → m.isFault = false
            → (∀ x ∈ r, x.isFault = true) → queueNotice n (l ++ m :: r) = l ++ r ++ [n]))

/-- In LISTEN or RUN, on a KNOWN channel DRIVING or in its coast window, the count moves one step in the counted
direction, held at 0 and P_max, and the class follows; with neither, or UNKNOWN, places stay, as the other channel's
does. A channel not DRIVING, or any under a plan, may instead stand at a closed switch where an order ends (DEDUCED,
log 62). With the other switch of the channel open, the home switch gives count 0 and STOWED, the out switch of a
slide or awning P_max and its class; a jack or awning carrying an order that way is then IDLE without order or claim
(at the out switch, without three high windows). Closing in RUN with the other closed, it raises SENSOR with detail
SWITCH_PAIR at node scope (log 23), and the place stays. A switch opening where no pair is closed changes its level,
in the channel and at the pin as last sampled (DESIGN CHOICE, log 64), alone; when one of the only closed pair
opens, SWITCH_PAIR ends and the closed one is taken as closing. For a DRIVING channel at an applied duty not
pressing on the ground, without a plan and short of its travel limit: in the end zone of its direction the count
snaps to the limit and the channel is IDLE (of a STOW too: DESIGN CHOICE, log 72); outside, below the retry limit,
it is PAUSED for a retry, the retries grown by 1; at the limit with GIVE_UP it is FAULTED with STALL listed; there
with KEEP_TRYING it is PAUSED to retry, retry count and stop unit as they were, STALL noticed once for the order. A
jack pressing on the ground, by its last sample, has its timer at 0, alone (DESIGN CHOICE, log 63). On a jack
without a plan whose count reaches P_max under an extend order, the class is DEPLOYED and STROKE_LIMIT listed
newest, noticed (with room) with requester, order and stroke in mm and reported; without a leg and in FOOTING the
order and its claim are over, the channel IDLE; a LIFT, TRIM or SNUG leg sets LIMIT and BEST_EFFORT and goes on in
SNUGGING or SETTLING. A pulse below P_max ends STROKE_LIMIT. (05 section on position (R72, R73), 05 section on
switches (R74), 05 section on stalls (R79 to R82), 05 section on the stroke limit (R76), 07 (R112, R117, R118).) -/
def Obligations.PulsesSwitchesAndStallsMoveTheChannel : Prop :=
  (∀ (ch : ChanId) (d : Dir) (s : State), s.active = true → s.hasChan ch = true → (s.chan ch).known = true
        → (s.chan ch).countDir = some d
        → ∃ t, exec (.encoderPulse ch) s = .next t
          ∧ (((t.chan ch).count =
                      (match d with
                        | .extend => min ((s.chan ch).count + 1) (s.cal.chan ch).pMax
                        | .retract => (s.chan ch).count - 1)
                  ∧ (t.chan ch).cls =
                      (if (t.chan ch).count = 0 then .stowed
                        else if (t.chan ch).count < (s.cal.chan ch).pMax then .partway else .deployed))
              ∨ (((s.chan ch).act ≠ .driving ∨ s.noPlan = false) ∧ s.atSwitch t ch))
          ∧ ((t.chan ch.other).count = (s.chan ch.other).count ∧ (t.chan ch.other).cls = (s.chan ch.other).cls
              ∨ (((s.chan ch.other).act ≠ .driving ∨ s.noPlan = false) ∧ s.atSwitch t ch.other)) ∧ s.sameRecord t
          ∧ t.peers = s.peers)
    ∧ (∀ (ch : ChanId) (s : State), s.active = true → s.hasChan ch = true
        → ((s.chan ch).known = false ∨ (s.chan ch).countDir = none)
        → ∃ t, exec (.encoderPulse ch) s = .next t ∧ s.samePlacesOrEnds t ∧ s.sameRecord t)
    ∧ (∀ (ch : ChanId) (s : State), s.active = true → s.hasChan ch = true → s.noPlan = true
        → (s.isJack = true ∨ (s.chan ch).outClosed = false)
        → ∃ t, exec (.homeSwitchClose ch) s = .next t ∧ (t.chan ch).count = 0 ∧ (t.chan ch).cls = .stowed
          ∧ (t.chan ch).homeClosed = true
          ∧ ((s.chan ch).carries = true → (s.chan ch).dir = some .retract → s.isSlide = false
              → (t.chan ch).act = .idle ∧ (t.chan ch).order = none ∧ t.supply.claim = none)
          ∧ ((t.chan ch.other).count = (s.chan ch.other).count ∧ (t.chan ch.other).cls = (s.chan ch.other).cls
              ∨ ((s.chan ch.other).act ≠ .driving ∧ s.atSwitch t ch.other)) ∧ s.sameRecord t ∧ t.peers = s.peers)
    ∧ (∀ (ch : ChanId) (s : State), s.active = true → s.hasChan ch = true → s.noPlan = true → s.isJack = false
        → (s.chan ch).homeClosed = false
        → ∃ t, exec (.outSwitchClose ch) s = .next t ∧ (t.chan ch).count = (s.cal.chan ch).pMax
          ∧ (t.chan ch).cls = classOfCount (s.cal.chan ch).pMax (s.cal.chan ch).pMax ∧ (t.chan ch).outClosed = true
          ∧ ((s.chan ch).carries = true → (s.chan ch).dir = some .extend → s.isSlide = false → s.wind.highRun < 3
              → (t.chan ch).act = .idle ∧ (t.chan ch).order = none ∧ t.supply.claim = none)
          ∧ ((t.chan ch.other).count = (s.chan ch.other).count ∧ (t.chan ch.other).cls = (s.chan ch.other).cls
              ∨ ((s.chan ch.other).act ≠ .driving ∧ s.atSwitch t ch.other)) ∧ s.sameRecord t ∧ t.peers = s.peers)
    ∧ (∀ (sw : EndSwitch) (ch : ChanId) (s : State), s.active = true → s.hasChan ch = true
        → (s.isJack = false ∨ sw = .home) → s.pairClosed ch = false
        → exec (.switchOpen sw ch) s = .next ({
              s.onChan ch fun c => (match sw with | .home => { c with homeClosed := false } | .out => { c with outClosed := false }) with inp := (match sw, ch with | .home, .a => { s.inp with homeA := !s.cal.chA.homeToSupply } | .home, .b => { s.inp with homeB := !s.cal.chB.homeToSupply } | .out, .a => { s.inp with outA := !s.cal.chA.outToSupply } | .out, .b => { s.inp with outB := !s.cal.chB.outToSupply }) }))
    ∧ (∀ (ch : ChanId) (s : State), s.node.mode = .run → s.hasChan ch = true → s.noPlan = true → s.isJack = false
        → (s.chan ch).outClosed = true
        → ∃ t, exec (.homeSwitchClose ch) s = .next t
          ∧ { kind := .sensor, chan := .node, detail := 0xFF04#16 } ∈ t.stop.faults
          ∧ (t.chan ch).count = (s.chan ch).count ∧ (t.chan ch).cls = (s.chan ch).cls
          ∧ (t.chan ch).homeClosed = true ∧ (t.chan ch).outClosed = true
          ∧ (s.bus.notices.length < 8
              → { code := .fault .sensor, chan := .node, requester := 0, order := none, detail := 0xFF04#16 } ∈
                  t.bus.notices)
          ∧ ((t.chan ch.other).count = (s.chan ch.other).count ∧ (t.chan ch.other).cls = (s.chan ch.other).cls
              ∨ ((s.chan ch.other).act ≠ .driving ∧ s.atSwitch t ch.other)) ∧ s.sameRecord t ∧ t.peers = s.peers)
    ∧ (∀ (ch : ChanId) (s : State), s.node.mode = .run → s.hasChan ch = true → s.noPlan = true → s.isJack = false
        → (s.chan ch).homeClosed = true
        → ∃ t, exec (.outSwitchClose ch) s = .next t
          ∧ { kind := .sensor, chan := .node, detail := 0xFF04#16 } ∈ t.stop.faults
          ∧ (t.chan ch).count = (s.chan ch).count ∧ (t.chan ch).cls = (s.chan ch).cls
          ∧ (t.chan ch).homeClosed = true ∧ (t.chan ch).outClosed = true
          ∧ (s.bus.notices.length < 8
              → { code := .fault .sensor, chan := .node, requester := 0, order := none, detail := 0xFF04#16 } ∈
                  t.bus.notices)
          ∧ ((t.chan ch.other).count = (s.chan ch.other).count ∧ (t.chan ch.other).cls = (s.chan ch.other).cls
              ∨ ((s.chan ch.other).act ≠ .driving ∧ s.atSwitch t ch.other)) ∧ s.sameRecord t ∧ t.peers = s.peers)
    ∧ (∀ (sw : EndSwitch) (ch : ChanId) (s : State), s.active = true → s.hasChan ch = true → s.noPlan = true
        → s.pairClosed ch = true → (s.pairClosed ch.other = false ∨ s.isSlide = false)
        → ∃ t, exec (.switchOpen sw ch) s = .next t ∧ t.hasSensor 0xFF04#16 = false
          ∧ (sw = .out
              → (t.chan ch).count = 0 ∧ (t.chan ch).cls = .stowed ∧ (t.chan ch).homeClosed = true
                ∧ (t.chan ch).outClosed = false)
          ∧ (sw = .home
              → (t.chan ch).count = (s.cal.chan ch).pMax
                ∧ (t.chan ch).cls = classOfCount (s.cal.chan ch).pMax (s.cal.chan ch).pMax
                ∧ (t.chan ch).homeClosed = false ∧ (t.chan ch).outClosed = true)
          ∧ ((t.chan ch.other).count = (s.chan ch.other).count ∧ (t.chan ch.other).cls = (s.chan ch.other).cls
              ∨ ((s.chan ch.other).act ≠ .driving ∧ s.atSwitch t ch.other)) ∧ s.sameRecord t ∧ t.peers = s.peers)
    ∧ (∀ (ch : ChanId) (s : State), s.active = true → s.hasChan ch = true → s.pressing = false → s.noPlan = true
        → (s.chan ch).act = .driving → (s.chan ch).applied ≠ 0 → s.shortOfTravel = true
        → s.inEndZone ch (s.chan ch).drvDir = true
        → ∃ t, exec (.stall ch) s = .next t
          ∧ (t.chan ch).count = (match (s.chan ch).drvDir with | .retract => 0 | .extend => (s.cal.chan ch).pMax)
          ∧ (t.chan ch).act = .idle ∧ (t.chan ch).applied = 0 ∧ (t.chan ch).order = none ∧ s.sameRecord t
          ∧ t.peers = s.peers)
    ∧ (∀ (ch : ChanId) (s : State), s.active = true → s.hasChan ch = true → s.pressing = false → s.noPlan = true
        → (s.chan ch).act = .driving → (s.chan ch).applied ≠ 0 → s.inEndZone ch (s.chan ch).drvDir = false
        → (s.chan ch).retries < s.retryLimit → s.shortOfTravel = true
        → ∃ t, exec (.stall ch) s = .next t ∧ (t.chan ch).act = .paused ∧ (t.chan ch).pause = some (.retry, 0)
          ∧ (t.chan ch).retries = (s.chan ch).retries + 1 ∧ (t.chan ch).applied = 0
          ∧ (t.chan ch).order = (s.chan ch).order ∧ s.sameRecord t ∧ s.samePlaces t ∧ t.peers = s.peers)
    ∧ (∀ (ch : ChanId) (s : State), s.active = true → s.hasChan ch = true → s.pressing = false → s.noPlan = true
        → (s.chan ch).act = .driving → (s.chan ch).applied ≠ 0 → s.inEndZone ch (s.chan ch).drvDir = false
        → s.retryLimit ≤ (s.chan ch).retries → s.keepTrying = false
        → ∃ t, exec (.stall ch) s = .next t ∧ (t.chan ch).act = .faulted
          ∧ (t.chan ch).fault = some (.stall, BitVec.ofNat 16 (perMille (s.chan ch) (s.cal.chan ch).pMax))
          ∧ {
              kind := .stall, chan := nchanOf ch,
              detail := BitVec.ofNat 16 (perMille (s.chan ch) (s.cal.chan ch).pMax) } ∈ t.stop.faults
          ∧ (t.chan ch).applied = 0 ∧ s.sameRecord t ∧ s.samePlaces t ∧ t.peers = s.peers)
    ∧ (∀ (ch : ChanId) (s : State), s.active = true → s.hasChan ch = true → s.pressing = false → s.noPlan = true
        → (s.chan ch).act = .driving → (s.chan ch).applied ≠ 0 → s.inEndZone ch (s.chan ch).drvDir = false
        → s.retryLimit ≤ (s.chan ch).retries → s.keepTrying = true → s.shortOfTravel = true
        → ∃ t, exec (.stall ch) s = .next t ∧ (t.chan ch).act = .paused ∧ (t.chan ch).pause = some (.retry, 0)
          ∧ (t.chan ch).retries = (s.chan ch).retries ∧ (t.chan ch).stallNoticed = true ∧ (t.chan ch).applied = 0
          ∧ (t.chan ch).order = (s.chan ch).order ∧ (t.chan ch).fault = (s.chan ch).fault ∧ t.stop = s.stop
          ∧ ((s.chan ch).stallNoticed = true → t.bus.notices = s.bus.notices)
          ∧ ((s.chan ch).stallNoticed = false → s.bus.notices.length < 8
              → t.bus.notices =
                  s.bus.notices ++ [{
                      code := .fault .stall, chan := nchanOf ch, requester := s.requester, order := s.curOrder,
                      detail := BitVec.ofNat 16 (perMille (s.chan ch) (s.cal.chan ch).pMax) }]) ∧ s.sameRecord t
          ∧ s.samePlaces t ∧ t.peers = s.peers)
    ∧ (∀ (ch : ChanId) (s : State), s.active = true → s.hasChan ch = true → s.pressing = true
        → (s.chan ch).act = .driving → (s.chan ch).applied ≠ 0
        → exec (.stall ch) s = .next (s.onChan ch fun c => { c with stall := c.stall.map (fun _ => 0) }))
    ∧ (∀ (s : State), s.active = true → s.noPlan = true → s.isJack = true → s.chA.known = true
        → s.chA.countDir = some .extend → s.chA.count + 1 = s.cal.chA.pMax → s.chA.carries = true
        → s.chA.dir = some .extend → s.ordersOk = true → 0 < s.allowance
        → ∃ t, exec (.encoderPulse .a) s = .next t ∧ t.chA.count = s.cal.chA.pMax ∧ t.chA.cls = .deployed
          ∧ t.stop.faults.getLast? = some {
              kind := .strokeLimit, chan := .node, detail := BitVec.ofNat 16 (s.cal.chA.pMax / 2) }
          ∧ (s.bus.notices.length < 8
              → t.bus.notices =
                  s.bus.notices ++ [{
                      code := .fault .strokeLimit, chan := .a, requester := s.requester, order := s.curOrder,
                      detail := BitVec.ofNat 16 (s.cal.chA.pMax / 2) }])
          ∧ (s.stop.drive = .none → s.cal.stopMask.getLsbD 9 = true
              → t.stop.drive = (if s.cal.driveCode = 1 then .pulsing else .latched)
                ∧ t.stop.first = some {
                    kind := .strokeLimit, chan := .node, detail := BitVec.ofNat 16 (s.cal.chA.pMax / 2) }
                ∧ t.bus.stopCall.isSome = true) ∧ (s.cal.stopMask.getLsbD 9 = false → t.stop.drive = s.stop.drive)
          ∧ (s.level.leg = none ∨ s.level.leg = some .foot
              → t.chA.act = .idle ∧ t.orders.cur = none ∧ t.supply.claim = none
                ∧ (s.level.leg = some .foot → t.level.phase = .none ∧ t.level.leg = none))
          ∧ (s.level.leg = some .snug ∨ s.level.leg = some .trim
              → t.level.phase = .settling ∧ t.level.leg = none ∧ t.chA.act = .idle ∧ t.level.limit = true
                ∧ t.level.bestEffort = true ∧ t.supply.claim = none)
          ∧ (s.level.leg = some .snug → t.level.contact = false)
          ∧ (s.level.leg = some .lift
              → (t.level.phase = .snugging ∨ t.level.phase = .settling) ∧ t.level.limit = true
                ∧ t.level.bestEffort = true) ∧ s.sameRecord t ∧ t.peers = s.peers ∧ t.inp = s.inp)
    ∧ (∀ (s : State), s.active = true → s.noPlan = true → s.isJack = true → s.chA.known = true
        → s.chA.countDir = some .retract → s.chA.count ≤ s.cal.chA.pMax → 0 < s.cal.chA.pMax
        → ∃ t, exec (.encoderPulse .a) s = .next t ∧ t.hasFault .strokeLimit = false
          ∧ (t.chA.count = s.chA.count - 1 ∨ ((s.chan .a).act ≠ .driving ∧ s.atSwitch t .a)) ∧ s.sameRecord t
          ∧ t.peers = s.peers)

/-- In RUN, a reading at or above the trip current on a channel of the node that is not FAULTED, without a plan,
makes it FAULTED with OVERCURRENT and the clamped reading, leaves no channel carrying an order and ends the claim
with the order, sets spent where that order is the wind retract, lists the fault, and, where the mask holds
OVERCURRENT and no drive stands, drives the line in the record's mode with this fault as first reason and a STOP
CALL pending. A reading below the trip current is recorded (DESIGN CHOICE, log 63) and trips nothing; an OVERCURRENT
that arose on the channel while it was FAULTED for another fault leaves the list with it (DEDUCED, log 57). In
LISTEN, the first failure on a channel of the node that is not FAULTED makes it FAULTED with that fault recorded and
listed, with duty 0; one on a FAULTED channel, one FAULTED with OVERCURRENT included, leaves the recorded fault, and
is listed with detail DRIVER, newest where no channel carries an order, and, with room in the queue, noticed
(DEDUCED, log 25); a second failure in the same LISTEN changes nothing. (05 section on faults (R85, R86), 08 (R128),
10 section on the drive (R152), 01 section 1.4 (R12), 09 section on the wind retract (R143).) -/
def Obligations.CurrentFaultsTheChannel : Prop :=
  (∀ (ch : ChanId) (reading : Current) (s : State), s.node.mode = .run → s.hasChan ch = true → s.noPlan = true
        → (s.chan ch).act ≠ .faulted → reading.atLeast (s.cal.chan ch).trip = true
        → ∃ t, exec (.overcurrentTrip ch reading) s = .next t ∧ (t.chan ch).act = .faulted
          ∧ (t.chan ch).fault =
              some (.overcurrent, (match reading with
                  | .units n => BitVec.ofNat 16 (min n 255)
                  | .fullScale => 0xFF01#16)) ∧ (t.chan ch).applied = 0 ∧ t.anyCarries = false
          ∧ (s.anyCarries = true → t.supply.claim = none)
          ∧ t.wind.spent =
              (s.wind.spent || (s.anyCarries && decide (s.orders.cur.map (·.task) = some .windRetract)))
          ∧ t.hasFault .overcurrent = true
          ∧ (s.stop.drive = .none → s.cal.stopMask.getLsbD 4 = true
              → t.stop.drive = (if s.cal.driveCode = 1 then .pulsing else .latched)
                ∧ t.stop.first = some {
                    kind := .overcurrent, chan := nchanOf ch,
                    detail := (match reading with
                        | .units n => BitVec.ofNat 16 (min n 255)
                        | .fullScale => 0xFF01#16) } ∧ t.bus.stopCall.isSome = true)
          ∧ (s.cal.stopMask.getLsbD 4 = false → t.stop.drive = s.stop.drive) ∧ s.sameRecord t ∧ s.samePlaces t
          ∧ s.sameRoadWind t ∧ t.peers = s.peers)
    ∧ (∀ (ch : ChanId) (reading : Current) (s : State), s.node.mode = .run → s.hasChan ch = true
        → reading.atLeast (s.cal.chan ch).trip = false
        → ∃ t, exec (.overcurrentTrip ch reading) s = .next t
          ∧ t = { s with
              inp := (match ch with
                  | .a => { s.inp with isnsA := reading }
                  | .b => { s.inp with isnsB := reading }), stop := t.stop }
          ∧ t.stop = { s.stop with faults := t.stop.faults } ∧ (∀ f ∈ t.stop.faults, f ∈ s.stop.faults)
          ∧ (∀ f ∈ s.stop.faults, channelKind f.kind = false ∨ f.chan ≠ nchanOf ch → f ∈ t.stop.faults)
          ∧ ((s.chan ch).act = .faulted
              → ∀ x ∈ (s.chan ch).fault, x.1 ≠ .overcurrent
                → ∀ f ∈ t.stop.faults, ¬(f.kind = .overcurrent ∧ f.chan = nchanOf ch)))
    ∧ (∀ (ch : ChanId) (s : State), s.node.mode = .listen → s.hasChan ch = true → s.node.idleFailed ch = false
        → (s.chan ch).act ≠ .faulted → s.orders.cursor = none
        → ∃ t, exec (.idleCurrentFail ch) s = .next t ∧ (t.chan ch).act = .faulted
          ∧ (t.chan ch).fault = some (.overcurrent, 0xFF02#16) ∧ (t.chan ch).applied = 0
          ∧ { kind := .overcurrent, chan := nchanOf ch, detail := 0xFF02#16 } ∈ t.stop.faults
          ∧ t.node.idleFailed ch = true ∧ t.node.mode = .listen ∧ s.sameOutside t ∧ s.samePlaces t)
    ∧ (∀ (ch : ChanId) (s : State), s.node.mode = .listen → s.hasChan ch = true → s.node.idleFailed ch = false
        → (s.chan ch).act = .faulted → s.orders.cursor = none
        → ∃ t, exec (.idleCurrentFail ch) s = .next t ∧ (t.chan ch).act = .faulted
          ∧ (t.chan ch).fault = (s.chan ch).fault ∧ t.node.idleFailed ch = true ∧ t.node.mode = .listen
          ∧ { kind := .overcurrent, chan := nchanOf ch, detail := 0xFF02#16 } ∈ t.stop.faults
          ∧ (s.anyCarries = false
              → t.stop.faults.getLast? = some { kind := .overcurrent, chan := nchanOf ch, detail := 0xFF02#16 })
          ∧ (s.bus.notices.length < 8
              → {
                  code := .fault .overcurrent, chan := nchanOf ch, requester := 0, order := none,
                  detail := 0xFF02#16 } ∈ t.bus.notices)
          ∧ (s.stop.drive = .none → s.cal.stopMask.getLsbD 4 = true
              → t.stop.drive ≠ .none ∧ t.bus.stopCall.isSome = true) ∧ s.sameOutside t ∧ s.samePlaces t)
    ∧ (∀ (ch : ChanId) (s : State), s.node.mode = .listen → s.node.idleFailed ch = true
        → exec (.idleCurrentFail ch) s = .next s)

/-- Without a plan, for a node one of whose channels is DRIVING (or PAUSED, for the wall time; for the rack, with
both rams KNOWN): WALL_TIME_LIMIT gives TRAVEL_TIME detail WALL, LOW_SUPPLY_TIMEOUT gives SUPPLY_LOW with the lowest
reading in tenths of a volt, RACK_TIMER_EXPIRY on a slide gives RACK with the clamped rack error, and a DUTY_STEP
whose duty fills the allowance gives TRAVEL_TIME detail ACCUMULATED: every channel that carries the order (with RACK
every ram not already FAULTED) is FAULTED with it and duty 0, a channel at rest is as it was, the fault is listed,
and the order is gone with its claim. That a ram of the order that waits or pauses takes SUPPLY_LOW with the one
that drives, and TRAVEL_TIME with the one that ran its time, is DEDUCED (log 40). (05 section on travel (R83, R84),
06 section on the supply sense (R99), 08 sections on squaring and on the pair (R127, R128, R131).) -/
def Obligations.TimeAndSupplyFaultTheOrder : Prop :=
  (∀ (s : State), s.active = true → s.noPlan = true
        → (s.chanIds.any fun ch => (s.chan ch).act = .driving || (s.chan ch).act = .paused) = true
        → ∃ t, exec .wallTimeLimit s = .next t
          ∧ (∀ ch ∈ s.chanIds, ((s.chan ch).carries = true
                  → (t.chan ch).act = .faulted ∧ (t.chan ch).fault = some (.travelTime, 0xFF08#16)
                    ∧ (t.chan ch).applied = 0)
              ∧ ((s.chan ch).carries = false
                  → (t.chan ch).act = (s.chan ch).act ∧ (t.chan ch).fault = (s.chan ch).fault))
          ∧ t.hasFault .travelTime = true ∧ t.supply.claim = none ∧ t.orders.cur = none ∧ t.anyCarries = false
          ∧ s.sameRecord t ∧ s.samePlaces t ∧ t.peers = s.peers)
    ∧ (∀ (x : Nat × Nat) (s : State), s.active = true → s.noPlan = true → s.supply.low = some x → s.anyDriving = true
        → ∃ t, exec .lowSupplyTimeout s = .next t
          ∧ (∀ ch ∈ s.chanIds, ((s.chan ch).carries = true
                  → (t.chan ch).act = .faulted ∧ (t.chan ch).fault = some (.supplyLow, BitVec.ofNat 16 (x.2 / 100))
                    ∧ (t.chan ch).applied = 0)
              ∧ ((s.chan ch).carries = false
                  → (t.chan ch).act = (s.chan ch).act ∧ (t.chan ch).fault = (s.chan ch).fault))
          ∧ t.hasFault .supplyLow = true ∧ t.supply.claim = none ∧ t.orders.cur = none ∧ t.anyCarries = false
          ∧ s.sameRecord t ∧ s.samePlaces t ∧ t.peers = s.peers)
    ∧ (∀ (s : State), s.active = true → s.noPlan = true → s.isSlide = true → s.square.rack.isSome = true
        → s.bothKnown = true
        → ∃ t, exec .rackTimerExpiry s = .next t
          ∧ (∀ ch ∈ s.chanIds, (s.chan ch).act ≠ .faulted
              → (t.chan ch).act = .faulted
                ∧ (t.chan ch).fault =
                    some (.rack, BitVec.ofInt 16 (max (-127) (min 127 ((s.chA.count : Int) - (s.chB.count : Int)))))
                ∧ (t.chan ch).applied = 0) ∧ t.hasFault .rack = true ∧ (s.anyCarries = true → t.supply.claim = none)
          ∧ t.anyCarries = false ∧ s.sameRecord t ∧ s.samePlaces t ∧ t.peers = s.peers)
    ∧ (∀ (d : DutyStep) (s : State), s.active = true → s.noPlan = true → s.anyDriving = true → s.step = some d
        → s.accLimit ≤ s.chA.acc + d.duty
        → ∃ t, exec .dutyStep s = .next t
          ∧ (∀ ch ∈ s.chanIds, ((s.chan ch).carries = true
                  → (t.chan ch).act = .faulted ∧ (t.chan ch).fault = some (.travelTime, 0xFF07#16)
                    ∧ (t.chan ch).applied = 0)
              ∧ ((s.chan ch).carries = false
                  → (t.chan ch).act = (s.chan ch).act ∧ (t.chan ch).fault = (s.chan ch).fault))
          ∧ t.hasFault .travelTime = true ∧ t.supply.claim = none ∧ t.orders.cur = none ∧ t.anyCarries = false
          ∧ s.sameRecord t ∧ s.samePlaces t ∧ t.peers = s.peers)

/-- Without a plan and short of the limit, on an awning whose channel A is DRIVING and admitted: at a DUTY_STEP the
accumulator grows by the duty of the step that ends, and the channel, still DRIVING, has exactly the duty composed
from its request and caps at that moment, which the new step holds; closing the coast window only closes it. The
same holds of a jack that drives in accord with its role wait. On a slide with a ram DRIVING and none WAITING or
PAUSED, admitted, under an order whose interlock holds or is overridden, both accumulators grow alike by the duty of
the step that ends, each DRIVING ram drives on at the duty composed for it, and the new step holds the larger of the
two. (05 section on duty (R77, R78, R83), 05 section on position (R72), 05 section on duty (R77, R83), 08 section on
the pair (R127, R130).) -/
def Obligations.DutyStepAccumulatesAndComposes : Prop :=
  (∀ (d : DutyStep) (s : State), s.active = true → s.noPlan = true → s.node.role = .awning → s.step = some d
        → s.chA.acc + d.duty < s.accLimit → s.chA.act = .driving → s.chB.act ≠ .driving → 0 < s.supply.cap
        → ∃ t, exec .dutyStep s = .next t ∧ t.chA.act = .driving ∧ t.chA.acc = s.chA.acc + d.duty
          ∧ t.chA.applied = t.duty .a ∧ t.step = some { duty := t.chA.applied, age := 0 }
          ∧ t.chA.order = s.chA.order ∧ t.chA.retries = s.chA.retries ∧ s.sameOutside t ∧ s.samePlaces t)
    ∧ (∀ (ch : ChanId) (s : State), exec (.coastWindowClose ch) s = .next (s.onChan ch fun c =>
            { c with coast := none }))
    ∧ (∀ (d : DutyStep) (s : State), s.active = true → s.noPlan = true → s.node.role = .jack → s.step = some d
        → s.chA.acc + d.duty < s.accLimit → s.chA.act = .driving → s.chB.act ≠ .driving → 0 < s.supply.cap
        → s.waitsHeld = true
        → ∃ t, exec .dutyStep s = .next t ∧ t.chA.act = .driving ∧ t.chA.acc = s.chA.acc + d.duty
          ∧ t.chA.applied = t.duty .a ∧ t.step = some { duty := t.chA.applied, age := 0 }
          ∧ t.chA.order = s.chA.order ∧ t.chA.retries = s.chA.retries ∧ t.level = s.level ∧ s.sameOutside t
          ∧ s.samePlaces t)
    ∧ (∀ (d : DutyStep) (s : State), s.active = true → s.noPlan = true → s.node.role = .slide → s.step = some d
        → s.chA.acc + d.duty < s.accLimit → s.anyDriving = true
        → (s.chanIds.all (fun ch => (s.chan ch).act ≠ .waiting ∧ (s.chan ch).act ≠ .paused) = true)
        → 0 < s.supply.cap → s.waitsHeld = true → s.orders.cur.isSome = true
        → ∃ t, exec .dutyStep s = .next t
          ∧ (∀ ch ∈ s.chanIds, (t.chan ch).acc = (s.chan ch).acc + d.duty ∧ (t.chan ch).act = (s.chan ch).act
              ∧ (t.chan ch).order = (s.chan ch).order
              ∧ (t.chan ch).applied = if (s.chan ch).act = .driving then t.duty ch else 0)
          ∧ t.step = some { duty := max t.chA.applied t.chB.applied, age := 0 } ∧ s.sameOutside t ∧ s.samePlaces t)

/-- A claim whose yield count is at or above N_promote has effective class one below its base class (0 as the floor)
and is promoted; any other keeps its base class. The lower effective class ranks ahead, then the promoted, then the
lower station; of two keys with different stations exactly one ranks ahead. The own key uses the own base class and
yield count, and what a peer adds uses its record's. For a DECIDED claim of at least 1, with A_i the sum of the
amounts of the peer records whose age is at most 250 ms and whose key ranks ahead of the own, and room = B_total -
A_i: the cap is 100 where the room holds the claim, floor(100 x room / claim) where four times the room does, and 0
otherwise; it is 0 or between 25 and 100, both rams of a slide are held to the one value, and claim x cap / 100
never exceeds the room. (R91, R92.) -/
def Obligations.ClaimsAreRankedAndShared : Prop :=
  ((∀ n b y st, (rankKey n b y st).effClass = (if n ≤ y then b - 1 else b)
            ∧ (rankKey n b y st).unpromoted = (if n ≤ y then 0 else 1) ∧ (rankKey n b y st).station = st)
        ∧ (∀ n b y st m c z su, (rankKey n b y st).ahead (rankKey m c z su) = true
            ↔ (rankKey n b y st).effClass < (rankKey m c z su).effClass
              ∨ ((rankKey n b y st).effClass = (rankKey m c z su).effClass
                  ∧ ((n ≤ y ∧ ¬ m ≤ z) ∨ ((n ≤ y ↔ m ≤ z) ∧ st < su))))
        ∧ (∀ n b y st m c z su, st ≠ su
            → rankKey n b y st ≠ rankKey m c z su
              ∧ ((rankKey n b y st).ahead (rankKey m c z su) = true
                  ↔ (rankKey m c z su).ahead (rankKey n b y st) = false))
        ∧ (∀ (s : State) (c : Claim), s.ownKey c =
              rankKey s.cal.nPromote c.baseClass (min 3 s.supply.passes) s.node.station)
        ∧ (∀ n own (p : Peer) (c : ClaimRec), p.claim = some c → c.counts = true
            → p.aheadAmount n own = if (rankKey n c.baseClass c.yield p.station).ahead own then c.amount else 0))
    ∧ (∀ (s : State) (c : Claim) (ahead : Nat) (room : Int), s.supply.claim = some c → c.standing = .decided
        → 0 < c.amount
        → ahead =
            ((s.peers.filterMap fun p => p.claim.bind fun r => if r.age ≤ 250 ∧ (rankKey s.cal.nPromote r.baseClass
                    r.yield p.station).ahead (rankKey s.cal.nPromote c.baseClass (min 3 s.supply.passes)
                    s.node.station) = true then some r.amount else none).sum)
        → room = (s.cal.bTotal : Int) - (ahead : Int)
        → ((c.amount : Int) ≤ room → (takeAdmission s).supply.cap = 100)
          ∧ (room < c.amount → (c.amount : Int) ≤ room * 4
              → ((takeAdmission s).supply.cap : Int) = 100 * room / c.amount)
          ∧ (room * 4 < c.amount → (takeAdmission s).supply.cap = 0)
          ∧ ((takeAdmission s).supply.cap = 0
              ∨ (25 ≤ (takeAdmission s).supply.cap ∧ (takeAdmission s).supply.cap ≤ 100))
          ∧ ((takeAdmission s).supply.cap ≠ 0
              → ((c.amount * (takeAdmission s).supply.cap : Nat) : Int) ≤ 100 * room)
          ∧ (∀ ch, (takeAdmission s).composed ch ≤ (takeAdmission s).supply.cap))

/-- For a claim in SETTLING with no passes, without a plan and short of the travel limit, orders and channels
agreeing as OrdersChannelsAndSessionsAgree keeps them: a claim that still stands afterwards is DECIDED and the cap
is that of its admission decision (but for a STOWED awning under three high windows, for which a wind retract may be
raised); where that decision is 0 no channel drives; an admitted awning in RUN, on the bus, with the line high,
WAITING to extend with its out switch open, is DRIVING in that direction. Places and the road alarm are kept, or
follow a switch that reads closed where an order ends there (DEDUCED, log 62). (06 sections on the settle window and
admission (R90, R92), 05 (R70).) -/
def Obligations.SettleWindowEndsInADecision : Prop :=
  ∀ (c : Claim) (s : State), s.active = true → s.noPlan = true → s.supply.claim = some c → c.standing = .settling
    → s.supply.passes = 0 → s.shortOfTravel = true → s.ordersOk = true
    → ∃ t, exec .settleWindowEnd s = .next t
      ∧ (s.wind.highRun < 3 ∨ s.chA.cls ≠ .stowed
          → ∀ c' ∈ t.supply.claim, c' = { c with standing := .decided, settle := 200 }
            ∧ t.supply.cap = budgetCap (s.cal.bTotal - s.aheadSum (s.ownKey c)) c.amount)
      ∧ (budgetCap (s.cal.bTotal - s.aheadSum (s.ownKey c)) c.amount = 0 → t.anyDriving = false)
      ∧ (s.node.role = .awning → s.node.mode = .run → s.bus.err ≠ .off → s.stop.sensedLow = false
          → s.chA.act = .waiting → s.chA.order.map (·.dir) = some .extend → s.outReads .a = false
          → 0 < budgetCap (s.cal.bTotal - s.aheadSum (s.ownKey c)) c.amount
          → t.chA.act = .driving ∧ t.chA.drvDir = .extend) ∧ s.sameOutsideOrEnds t ∧ t.inp = s.inp
      ∧ s.samePlacesOrEnds t

/-- In LISTEN or RUN, for a record with V_floor below V_droop, a reading leaves the droop cap at 100 at or above
V_droop, at 0 at or below V_floor, and at floor(100 x (V_s - V_floor) / (V_droop - V_floor)) between; the reading is
what the supply sense then holds. In LISTEN or RUN with a sound sense: below 150 degrees HOT is set at 115 or more,
cleared at 105 or less and kept between, and the thermal cap is 25 while HOT and 100 otherwise; at 150 or more the
node is in LOCKOUT with cause OVERHEAT, duty 0, the STOP drive released and no claim. While the sense has failed
only the input is recorded. A channel's place is kept, or is that of a switch that reads closed where its order ends
there (DEDUCED, log 62). (06 section on the supply sense (R98), 06 section on temperature (R100 to R102), 01 section
1.6 (R14).) -/
def Obligations.SupplyAndTemperatureSetTheCaps : Prop :=
  (∀ (mv : Nat) (s : State), s.active = true → s.cal.vFloor < s.cal.vDroop
        → ∃ t, exec (.supplySenseReading mv) s = .next t
          ∧ t.supply.droop =
              (if s.cal.vDroop ≤ mv then 100
                else if mv ≤ s.cal.vFloor then 0 else 100 * (mv - s.cal.vFloor) / (s.cal.vDroop - s.cal.vFloor))
          ∧ t.supply.droop ≤ 100 ∧ t.inp = { s.inp with vs := mv } ∧ s.sameRecord t ∧ t.peers = s.peers
          ∧ s.samePlacesOrEnds t ∧ t.supply.hot = s.supply.hot)
    ∧ (∀ (x : Int) (s : State), s.active = true → s.hasSensor 0xFF05#16 = false → x < 150
        → ∃ t, exec (.temperatureReading x) s = .next t
          ∧ t.supply.hot = (if 115 ≤ x then true else if x ≤ 105 then false else s.supply.hot)
          ∧ t.inp = { s.inp with temp := x }
          ∧ (t.hasSensor 0xFF05#16 = false → t.thermalCap = if t.supply.hot then 25 else 100)
          ∧ t.supply.droop = s.supply.droop ∧ s.sameRecord t ∧ s.samePlacesOrEnds t ∧ t.peers = s.peers)
    ∧ (∀ (x : Int) (s : State), s.active = true → s.hasSensor 0xFF05#16 = false → 150 ≤ x
        → ∃ t, exec (.temperatureReading x) s = .next t ∧ t.node.mode = .lockout ∧ t.node.lockout = .overheat
          ∧ t.chA.applied = 0 ∧ t.chB.applied = 0 ∧ t.stop.drive = .none ∧ t.supply.claim = none
          ∧ t.stop.faults = s.stop.faults ∧ t.bus.notices = [] ∧ t.bus.beaconTimer = none ∧ s.sameRecord t
          ∧ s.samePlaces t ∧ t.road = s.road ∧ t.level = s.level ∧ t.orders = s.orders ∧ t.peers = s.peers)
    ∧ (∀ (x : Int) (s : State), s.active = true → s.hasSensor 0xFF05#16 = true
        → exec (.temperatureReading x) s = .next ({ s with inp := { s.inp with temp := x } }))

/-- On a jack in LISTEN or RUN on the bus, the clamped reading (or the last one again, or 0 and 0) joins the window
of the last four; own pitch and roll are the means rounded half away from zero; P and Q are the lower medians of the
own values and those of the FRESH expected jacks. An interval without a sound reading raises TILT when it is not
active (with no plan: listed, noticed on channel A with the session's requester and order LEVEL or 0 and none,
reported to the stop mask, and ending a session with phase NONE, no leg and its channel IDLE) and leaves it active;
while it is active, on a jack at rest in RUN without a plan and short of its travel limit, with no session and no
running dwell (tiltOk, which OrdersChannelsAndSessionsAgree keeps), such an interval changes neither the stop unit
nor the notice queue; one among the first four of a LISTEN, the first that fails there, is noticed and reported
again while it is active (DESIGN CHOICE, log 24); the fourth sound reading in a row ends it, and fewer leave it as
it was. The lower median of a set that is not empty is a member of it, at most half of the members (rounded down)
lie below it, and at most half (rounded down) above it; the rounded mean differs from the exact mean by at most a
half, and a tie goes away from zero. A channel's place is kept, or is that of a switch that reads closed where its
order ends there (DEDUCED, log 62). (07 sections on attitude and consensus (R104 to R106), 01 section on self-checks
(R12), 07 sections on attitude and consensus (R104, R106).) -/
def Obligations.ReadingsGiveAttitudeAndConsensus : Prop :=
  (∀ (r : Option (Int × Int)) (s : State), s.active = true → s.isJack = true → s.bus.err ≠ .off
        → ∃ t, exec (.inclinometerReading r) s = .next t
          ∧ t.level.window =
              (s.level.window ++
                  [(match r with
                      | some x => (max (-1500) (min 1500 x.1), max (-1500) (min 1500 x.2))
                      | none => s.level.window.getLast?.getD (0, 0))]).drop (s.level.window.length - 3)
          ∧ t.level.pitch = meanRound (t.level.window.map (·.1))
          ∧ t.level.roll = meanRound (t.level.window.map (·.2))
          ∧ t.level.p =
              lowerMedian (t.level.pitch :: s.jackPeers.filterMap fun p => p.beacon.body.attitude.map (·.1))
          ∧ t.level.q =
              lowerMedian (t.level.roll :: s.jackPeers.filterMap fun p => p.beacon.body.attitude.map (·.2))
          ∧ t.inp = { s.inp with tilt := r } ∧ s.sameRecord t ∧ s.samePlacesOrEnds t ∧ t.peers = s.peers)
    ∧ (∀ (r : Option (Int × Int)) (s : State), s.active = true → s.isJack = true → s.bus.err ≠ .off → s.noPlan = true
        → (r.all (fun x => decide (1500 < x.1.natAbs ∨ 1500 < x.2.natAbs)) = true) → s.hasSensor 0xFF06#16 = false
        → ∃ t, exec (.inclinometerReading r) s = .next t
          ∧ { kind := .sensor, chan := .node, detail := 0xFF06#16 } ∈ t.stop.faults ∧ t.level.goodRun = 0
          ∧ (s.bus.notices.length < 8
              → {
                  code := .fault .sensor, chan := .a,
                  requester := if s.orders.cur.any (fun o => o.task.session) = true then s.requester else 0,
                  order := if s.orders.cur.any (fun o => o.task.session) = true then some .level else none,
                  detail := 0xFF06#16 } ∈ t.bus.notices)
          ∧ (s.stop.drive = .none → s.cal.stopMask.getLsbD 6 = true
              → t.stop.drive = (if s.cal.driveCode = 1 then .pulsing else .latched)
                ∧ t.stop.first = some { kind := .sensor, chan := .node, detail := 0xFF06#16 }
                ∧ t.bus.stopCall.isSome = true)
          ∧ (inSession s.level.phase = true
              → t.level.phase = .none ∧ t.level.leg = none ∧ t.orders.cur = none
                ∧ (s.level.leg.isSome = true → s.chA.carries = true → t.chA.act = .idle)))
    ∧ (∀ (r : Option (Int × Int)) (s : State), s.active = true → s.isJack = true → s.bus.err ≠ .off
        → (r.all (fun x => decide (1500 < x.1.natAbs ∨ 1500 < x.2.natAbs)) = true) → s.hasSensor 0xFF06#16 = true
        → ∃ t, exec (.inclinometerReading r) s = .next t ∧ t.hasSensor 0xFF06#16 = true ∧ t.level.goodRun = 0
          ∧ (s.node.mode = .run → s.noPlan = true → s.shortOfTravel = true → s.anyCarries = false → s.tiltOk = true
              → t.stop = s.stop ∧ t.bus.notices = s.bus.notices))
    ∧ (∀ (r : Option (Int × Int)) (s : State), s.node.mode = .listen → s.isJack = true → s.bus.err ≠ .off
        → s.noPlan = true → s.anyCarries = false → s.orders.cur = none
        → (r.all (fun x => decide (1500 < x.1.natAbs ∨ 1500 < x.2.natAbs)) = true) → 0 < s.level.checkLeft
        → ∃ t, exec (.inclinometerReading r) s = .next t ∧ t.level.checkLeft = 0
          ∧ t.stop.faults.getLast? = some { kind := .sensor, chan := .node, detail := 0xFF06#16 }
          ∧ (s.bus.notices.length < 8
              → t.bus.notices =
                  s.bus.notices ++ [{
                      code := .fault .sensor, chan := .a, requester := 0, order := none, detail := 0xFF06#16 }])
          ∧ (s.stop.drive = .none → s.cal.stopMask.getLsbD 6 = true
              → t.stop.drive = (if s.cal.driveCode = 1 then .pulsing else .latched)
                ∧ t.stop.first = some { kind := .sensor, chan := .node, detail := 0xFF06#16 }
                ∧ t.bus.stopCall.isSome = true))
    ∧ (∀ (r : Option (Int × Int)) (s : State), s.active = true → s.isJack = true → s.bus.err ≠ .off
        → (r.any (fun x => decide (x.1.natAbs ≤ 1500 ∧ x.2.natAbs ≤ 1500)) = true)
        → ∃ t, exec (.inclinometerReading r) s = .next t ∧ t.level.goodRun = min 4 (s.level.goodRun + 1)
          ∧ t.hasSensor 0xFF06#16 = (if 3 ≤ s.level.goodRun then false else s.hasSensor 0xFF06#16))
    ∧ ((∀ l : List Int, l ≠ []
            → lowerMedian l ∈ l ∧ (l.countP fun x => x < lowerMedian l) ≤ (l.length - 1) / 2
              ∧ (l.countP fun x => lowerMedian l < x) ≤ l.length / 2)
        ∧ (∀ l : List Int, l ≠ []
            → 2 * (meanRound l * l.length - l.sum).natAbs ≤ l.length
              ∧ (2 * (meanRound l * l.length - l.sum).natAbs = l.length
                  → l.sum.natAbs < (meanRound l * l.length).natAbs)))

/-- The height of a corner is the exact product (x P + y Q) 1745, its magnitude plus 5,000,000 divided by 10,000,000
with the remainder dropped, and its sign restored. For a jack with an entry in the table, the lift is at least every
corner's height less the own corner's, equals it for some corner of the table, and is 0 exactly where no corner is
higher; a lift of 20 mm or more asks for 100, and a smaller one above the deadband for 20 + 4 x L (R108). In LIFTING
and TRIM, with no claim where no leg runs (R89), at a beacon of a jack (with no stow held back) and at a sound
inclinometer reading, the consensus is computed again and the session evaluated on it: a missing jack sets the
request of a running leg to 0 and its timer running, and changes neither leg nor phase; else a peer's LIMIT sets
BEST_EFFORT and ends the lifting, a passed level test ends it, a lift above deadband and remaining stroke sets LIMIT
and BEST_EFFORT and ends it, a lift at or below the deadband keeps the leg there is at request 0, and another keeps
or starts the leg with the request of the lift. LIFTING ends in SETTLING with CONTACT at a closed foot switch, and
otherwise in SNUGGING with a SNUG leg at request 30 and the foot in the AIR; TRIM ends in SETTLING. (07 sections on
the lift and its request (R107, R108), 07 sections on lifting and limits (R114, R116 to R118, R121).) -/
def Obligations.LiftIsTheHighestCornersLead : Prop :=
  (∀ (source : Nat) (d : Data8) (b : Beacon) (s : State), s.delivers .postureBeacon source = true
        → s.active = true → source ≠ s.node.station → stationRole source = .jack → decodeBeacon source d = some b
        → s.isJack = true → (s.level.phase = .lifting ∨ s.level.phase = .trim) → s.noPlan = true → s.ordersOk = true
        → s.shortOfTravel = true → 0 < s.allowance → (s.level.leg.isSome = true ∨ s.supply.claim = none)
        → s.road.stow ≠ .heldBack
        → ∃ t, exec (.postureBeacon source d) s = .next t
          ∧ t.level.p =
              lowerMedian (t.level.pitch :: t.jackPeers.filterMap fun p => p.beacon.body.attitude.map (·.1))
          ∧ t.level.q =
              lowerMedian (t.level.roll :: t.jackPeers.filterMap fun p => p.beacon.body.attitude.map (·.2))
          ∧ (t.missingJacks ≠ []
              → t.level.phase = s.level.phase ∧ t.level.leg = s.level.leg ∧ t.level.missing.isSome = true
                ∧ (s.level.leg.isSome = true → t.level.request = 0) ∧ t.level.limit = s.level.limit
                ∧ t.level.bestEffort = s.level.bestEffort) ∧ (t.missingJacks = [] → t.level.missing = none)
          ∧ (t.missingJacks = [] → t.peerLimit = true → t.level.bestEffort = true ∧ t.level.limit = s.level.limit)
          ∧ (t.missingJacks = [] → t.peerLimit = false → t.levelTest = true
              → t.level.bestEffort = s.level.bestEffort ∧ t.level.limit = s.level.limit)
          ∧ (t.missingJacks = [] → t.peerLimit = false → t.levelTest = false → s.cal.deadband < t.lift
              → t.remaining < t.lift → t.level.bestEffort = true ∧ t.level.limit = true)
          ∧ (t.missingJacks = []
              → t.peerLimit = true ∨ t.levelTest = true ∨ (s.cal.deadband < t.lift ∧ t.remaining < t.lift)
              → s.level.phase = .trim → t.level.phase = .settling ∧ t.level.settle = some 0 ∧ t.level.leg = none)
          ∧ (t.missingJacks = []
              → t.peerLimit = true ∨ t.levelTest = true ∨ (s.cal.deadband < t.lift ∧ t.remaining < t.lift)
              → s.level.phase = .lifting → s.footFitted = true → s.level.footClosed = true
              → t.level.phase = .settling ∧ t.level.settle = some 0 ∧ t.level.leg = none ∧ t.level.contact = true)
          ∧ (t.missingJacks = []
              → t.peerLimit = true ∨ t.levelTest = true ∨ (s.cal.deadband < t.lift ∧ t.remaining < t.lift)
              → s.level.phase = .lifting → s.footFitted = false ∨ s.level.footClosed = false
              → t.level.phase = .snugging ∧ t.level.leg = some .snug ∧ t.level.request = 30
                ∧ t.level.contact = false ∧ t.chA.order.map (·.dir) = some .extend ∧ t.chA.act = .waiting)
          ∧ (t.missingJacks = [] → t.peerLimit = false → t.levelTest = false → t.lift ≤ s.cal.deadband
              → t.level.phase = s.level.phase ∧ t.level.leg = s.level.leg
                ∧ (s.level.leg.isSome = true → t.level.request = 0) ∧ t.level.bestEffort = s.level.bestEffort
                ∧ t.level.limit = s.level.limit)
          ∧ (t.missingJacks = [] → t.peerLimit = false → t.levelTest = false → s.cal.deadband < t.lift
              → t.lift ≤ t.remaining
              → t.level.phase = s.level.phase ∧ t.level.leg = some (if s.level.phase = .trim then .trim else .lift)
                ∧ t.level.request = (if 20 ≤ t.lift then 100 else 20 + 4 * t.lift)
                ∧ t.chA.order.map (·.dir) = some .extend ∧ (s.level.leg = none → t.chA.act = .waiting)
                ∧ t.level.bestEffort = s.level.bestEffort ∧ t.level.limit = s.level.limit) ∧ s.sameRecord t
          ∧ s.samePlaces t)
    ∧ (∀ (r : Option (Int × Int)) (s : State), s.active = true → s.bus.err ≠ .off
        → (r.any (fun x => decide (x.1.natAbs ≤ 1500 ∧ x.2.natAbs ≤ 1500)) = true) → s.isJack = true
        → (s.level.phase = .lifting ∨ s.level.phase = .trim) → s.noPlan = true → s.ordersOk = true
        → s.shortOfTravel = true → 0 < s.allowance → (s.level.leg.isSome = true ∨ s.supply.claim = none)
        → ∃ t, exec (.inclinometerReading r) s = .next t
          ∧ t.level.p =
              lowerMedian (t.level.pitch :: t.jackPeers.filterMap fun p => p.beacon.body.attitude.map (·.1))
          ∧ t.level.q =
              lowerMedian (t.level.roll :: t.jackPeers.filterMap fun p => p.beacon.body.attitude.map (·.2))
          ∧ (t.missingJacks ≠ []
              → t.level.phase = s.level.phase ∧ t.level.leg = s.level.leg ∧ t.level.missing.isSome = true
                ∧ (s.level.leg.isSome = true → t.level.request = 0) ∧ t.level.limit = s.level.limit
                ∧ t.level.bestEffort = s.level.bestEffort) ∧ (t.missingJacks = [] → t.level.missing = none)
          ∧ (t.missingJacks = [] → t.peerLimit = true → t.level.bestEffort = true ∧ t.level.limit = s.level.limit)
          ∧ (t.missingJacks = [] → t.peerLimit = false → t.levelTest = true
              → t.level.bestEffort = s.level.bestEffort ∧ t.level.limit = s.level.limit)
          ∧ (t.missingJacks = [] → t.peerLimit = false → t.levelTest = false → s.cal.deadband < t.lift
              → t.remaining < t.lift → t.level.bestEffort = true ∧ t.level.limit = true)
          ∧ (t.missingJacks = []
              → t.peerLimit = true ∨ t.levelTest = true ∨ (s.cal.deadband < t.lift ∧ t.remaining < t.lift)
              → s.level.phase = .trim → t.level.phase = .settling ∧ t.level.settle = some 0 ∧ t.level.leg = none)
          ∧ (t.missingJacks = []
              → t.peerLimit = true ∨ t.levelTest = true ∨ (s.cal.deadband < t.lift ∧ t.remaining < t.lift)
              → s.level.phase = .lifting → s.footFitted = true → s.level.footClosed = true
              → t.level.phase = .settling ∧ t.level.settle = some 0 ∧ t.level.leg = none ∧ t.level.contact = true)
          ∧ (t.missingJacks = []
              → t.peerLimit = true ∨ t.levelTest = true ∨ (s.cal.deadband < t.lift ∧ t.remaining < t.lift)
              → s.level.phase = .lifting → s.footFitted = false ∨ s.level.footClosed = false
              → t.level.phase = .snugging ∧ t.level.leg = some .snug ∧ t.level.request = 30
                ∧ t.level.contact = false ∧ t.chA.order.map (·.dir) = some .extend ∧ t.chA.act = .waiting)
          ∧ (t.missingJacks = [] → t.peerLimit = false → t.levelTest = false → t.lift ≤ s.cal.deadband
              → t.level.phase = s.level.phase ∧ t.level.leg = s.level.leg
                ∧ (s.level.leg.isSome = true → t.level.request = 0) ∧ t.level.bestEffort = s.level.bestEffort
                ∧ t.level.limit = s.level.limit)
          ∧ (t.missingJacks = [] → t.peerLimit = false → t.levelTest = false → s.cal.deadband < t.lift
              → t.lift ≤ t.remaining
              → t.level.phase = s.level.phase ∧ t.level.leg = some (if s.level.phase = .trim then .trim else .lift)
                ∧ t.level.request = (if 20 ≤ t.lift then 100 else 20 + 4 * t.lift)
                ∧ t.chA.order.map (·.dir) = some .extend ∧ (s.level.leg = none → t.chA.act = .waiting)
                ∧ t.level.bestEffort = s.level.bestEffort ∧ t.level.limit = s.level.limit) ∧ s.sameRecord t
          ∧ s.samePlaces t ∧ t.peers = s.peers)
    ∧ ((∀ (p q x y : Int) (m : Nat), m = (((x * p + y * q) * 1745).natAbs + 5000000) / 10000000
            → cornerHeight p q (x, y) = if 0 ≤ (x * p + y * q) * 1745 then (m : Int) else -(m : Int))
        ∧ ∀ (s : State) (own : Int × Int), s.cal.jackTable[s.node.station]? = some (some own)
          → (∀ xy, some xy ∈ s.cal.jackTable
                → cornerHeight s.level.p s.level.q xy - cornerHeight s.level.p s.level.q own ≤ (s.lift : Int))
            ∧ (∃ xy, some xy ∈ s.cal.jackTable
                ∧ (s.lift : Int) = cornerHeight s.level.p s.level.q xy - cornerHeight s.level.p s.level.q own)
            ∧ (s.lift = 0
                ↔ ∀ xy, some xy ∈ s.cal.jackTable
                  → cornerHeight s.level.p s.level.q xy ≤ cornerHeight s.level.p s.level.q own)
            ∧ (s.cal.deadband < s.lift → liftRequest s.lift = (if 20 ≤ s.lift then 100 else 20 + 4 * s.lift)))

/-- On a jack without a plan: contact current during a DRIVING FOOT leg, with some other expected jack not in
contact, leaves phase FOOTING, the foot in CONTACT, no leg, channel A IDLE and the footing wait at 0; during a SNUG
leg it leaves SETTLING with the settle time at 0. A fitted foot switch that closes, on a jack at rest with phase
NONE, sets CONTACT and nothing else of the level unit; one that opens sets AIR at once and changes nothing else but
its sampled level. That both rows set the level as last sampled is DESIGN CHOICE (log 64). (07 sections on feet and
legs (R109, R112, R113, R118).) -/
def Obligations.FootReachesTheGround : Prop :=
  (∀ (s : State), s.active = true → s.noPlan = true → s.isJack = true → s.chA.act = .driving
        → s.level.leg = some .foot → s.level.phase = .footing → s.notInContact ≠ [] → s.shortOfTravel = true
        → ∃ t, exec .contactCurrent s = .next t ∧ t.level.phase = .footing ∧ t.level.contact = true
          ∧ t.level.leg = none ∧ t.chA.act = .idle ∧ t.level.footing = some 0 ∧ t.supply.claim = none
          ∧ t.orders.cur = s.orders.cur ∧ s.sameOutside t ∧ s.samePlaces t ∧ s.sameSense t)
    ∧ (∀ (s : State), s.active = true → s.noPlan = true → s.isJack = true → s.chA.act = .driving
        → s.level.leg = some .snug → s.shortOfTravel = true
        → ∃ t, exec .contactCurrent s = .next t ∧ t.level.phase = .settling ∧ t.level.contact = true
          ∧ t.level.leg = none ∧ t.chA.act = .idle ∧ t.level.settle = some 0 ∧ t.supply.claim = none
          ∧ t.orders.cur = s.orders.cur ∧ s.sameOutside t ∧ s.samePlaces t ∧ s.sameSense t)
    ∧ (∀ (s : State), s.active = true → s.footFitted = true → s.rests = true → s.level.phase = .none
        → s.level.leg = none → s.orders.idleReached = false
        → ∃ t, exec .footSwitchClose s = .next t ∧ t.level = { s.level with contact := true, footClosed := true }
          ∧ s.sameOutside t ∧ s.samePlaces t ∧ t.orders = s.orders ∧ t.stop = s.stop ∧ t.node = s.node)
    ∧ (∀ (s : State), s.active = true → s.footFitted = true
        → exec .footSwitchOpen s = .next ({ s with
              inp := { s.inp with foot := false },
              level := { s.level with footClosed := false, contact := false } }))

/-- On a jack without a plan: 30 s in FOOTING without every foot, or 1 s of LIFTING or TRIM with a jack missing,
ends the session with phase NONE and no leg; a channel that carried the leg is HALTED, no order or claim is left,
the flags are clear, PEER_LOST is listed and, with room in the queue, noticed on channel A with the session's
requester and order and the lowest such station. That the notice of the missing limit names channel A is a DESIGN
CHOICE (log 31), and so are its requester and order, of which R116 says nothing (log 56); and that the own station
counts among those without CONTACT is DEDUCED (log 32). (07 sections on FOOTING and missing jacks (R113, R116,
R123).) -/
def Obligations.WaitingForPeersEndsTheSession : Prop :=
  (∀ (s : State), s.active = true → s.noPlan = true → s.isJack = true → s.level.phase = .footing
        → s.level.footing.isSome = true
        → ∃ t, exec .footingWaitExpiry s = .next t ∧ t.level.phase = .none ∧ t.level.leg = none
          ∧ t.orders.cur = none ∧ t.supply.claim = none ∧ t.hasFault .peerLost = true
          ∧ t.chA.act = (if s.chA.carries then .halted else s.chA.act) ∧ t.level.bestEffort = false
          ∧ t.level.limit = false ∧ t.level.offLevel = false ∧ s.sameOutside t ∧ s.samePlaces t ∧ s.sameSense t
          ∧ (s.bus.notices.length < 8
              → {
                  code := .fault .peerLost, chan := .a, requester := s.requester, order := s.curOrder,
                  detail := BitVec.ofNat 16 (s.footless.headD 0) } ∈ t.bus.notices))
    ∧ (∀ (s : State), s.active = true → s.noPlan = true → s.isJack = true
        → (s.level.phase = .lifting ∨ s.level.phase = .trim) → s.level.missing.isSome = true
        → ∃ t, exec .missingTimerExpiry s = .next t ∧ t.level.phase = .none ∧ t.level.leg = none
          ∧ t.orders.cur = none ∧ t.supply.claim = none ∧ t.hasFault .peerLost = true
          ∧ t.chA.act = (if s.chA.carries then .halted else s.chA.act) ∧ t.level.bestEffort = false
          ∧ t.level.limit = false ∧ t.level.offLevel = false ∧ s.sameOutside t ∧ s.samePlaces t ∧ s.sameSense t
          ∧ (s.bus.notices.length < 8
              → {
                  code := .fault .peerLost, chan := .a, requester := s.requester, order := s.curOrder,
                  detail := BitVec.ofNat 16 (s.missingJacks.headD 0) } ∈ t.bus.notices))

/-- On a jack without a plan, orders and channels agreeing as OrdersChannelsAndSessionsAgree keeps them: with the
level test passed or BEST_EFFORT set, or after three re-lifts (then with BEST_EFFORT set), the phase is STABLE, the
session order has ended, and LEVEL_REACHED is queued where there is room; otherwise a steep consensus ends the
session with TOO_STEEP listed, and a session that is not steep has its re-lift count grown by 1. On a jack in RUN
and STABLE, on the bus, with its dwell running, without auto-trim or with BEST_EFFORT, orders and channels agreeing
likewise, OFF_LEVEL is set, the dwell stops and the phase stays STABLE; with auto-trim and no BEST_EFFORT, nothing
else in hand and the running duty step at most 100 (stepOk, which CapStaysWithinTheDecision keeps), a steep
consensus ends STABLE with TOO_STEEP, and otherwise, with the level test not passed, no jack missing, no peer at its
limit and a lift above the deadband that its stroke can make, the phase is TRIM with the level unit's own order and
a leg at the lift's request. (07 section on SETTLING (R113, R119), 07 sections on the dwell and TRIM (R120, R121).)
-/
def Obligations.SettlingAndTrimDecide : Prop :=
  (∀ (s : State), s.active = true → s.noPlan = true → s.isJack = true → s.level.phase = .settling
        → s.level.settle.isSome = true → (s.levelTest = true ∨ s.level.bestEffort = true ∨ s.level.relift = 3)
        → s.ordersOk = true
        → ∃ t, exec .settleTimeEnd s = .next t ∧ t.level.phase = .stable ∧ t.orders.cur = none
          ∧ t.level.bestEffort = (s.level.bestEffort || !s.levelTest) ∧ t.level.limit = s.level.limit
          ∧ (s.bus.notices.length < 8
              → ∃ n ∈ t.bus.notices, n.code = .event .levelReached ∧ n.chan = .a ∧ n.requester = s.requester)
          ∧ s.sameOutside t ∧ s.samePlaces t ∧ s.sameSense t)
    ∧ (∀ (s : State), s.active = true → s.noPlan = true → s.isJack = true → s.level.phase = .settling
        → s.level.settle.isSome = true → s.shortOfTravel = true → s.levelTest = false → s.level.bestEffort = false
        → s.level.relift < 3 → s.ordersOk = true
        → ∃ t, exec .settleTimeEnd s = .next t
          ∧ (s.steep = true → t.level.phase = .none ∧ t.hasFault .tooSteep = true ∧ t.orders.cur = none)
          ∧ (s.steep = false
              → t.level.relift = s.level.relift + 1
                ∧ (t.level.phase = .lifting ∨ t.level.phase = .snugging ∨ t.level.phase = .settling))
          ∧ s.sameOutside t ∧ s.samePlaces t ∧ s.sameSense t)
    ∧ (∀ (s : State), s.node.mode = .run → s.noPlan = true → s.isJack = true → s.bus.err ≠ .off
        → s.level.phase = .stable → s.level.dwell.isSome = true
        → (s.cal.autoTrim = false ∨ s.level.bestEffort = true) → s.ordersOk = true
        → ∃ t, exec .trimDwellComplete s = .next t ∧ t.level.offLevel = true ∧ t.level.dwell = none
          ∧ t.level.phase = .stable ∧ s.sameOutside t ∧ s.samePlaces t ∧ s.sameSense t)
    ∧ (∀ (s : State), s.node.mode = .run → s.isJack = true → s.bus.err ≠ .off → s.level.phase = .stable
        → s.level.dwell.isSome = true → s.cal.autoTrim = true → s.level.bestEffort = false → s.rests = true
        → s.level.leg = none → 0 < s.allowance → s.stepOk = true
        → ∃ t, exec .trimDwellComplete s = .next t
          ∧ (s.steep = true → t.level.phase = .none ∧ t.hasFault .tooSteep = true)
          ∧ (s.steep = false → s.missingJacks = [] → s.peerLimit = false → s.levelTest = false
              → s.cal.deadband < s.lift → s.lift ≤ s.remaining
              → t.level.phase = .trim ∧ t.orders.cur.map (·.task) = some .trim ∧ t.level.leg = some .trim
                ∧ t.level.request = liftRequest s.lift ∧ t.chA.act = .waiting
                ∧ t.chA.order.map (·.dir) = some .extend) ∧ s.sameOutside t ∧ s.samePlaces t ∧ s.sameSense t)

/-- On a slide without a plan, GRACE_EXPIRY leaves every ram that carried an order HALTED, no order, no claim and
the square unit at rest; with an expected jack missing PEER_LOST is listed and noticed with the lowest such station,
otherwise no fault joins the list and a REFUSAL INTERLOCK is noticed (both with room in the queue, channel node, the
order's requester and order). For both rams KNOWN and the band below the limit: a ram that does not lead, and both
within the band, are asked the base request; a leading ram above the band and below the limit floor(u x (R_lim - m)
/ (R_lim - band)) with u the least of base request and caps, and at or beyond the limit 0; the base request is 40
with a ram in its end zone and 100 otherwise, and 50 with a ram UNKNOWN. (08 section on the interlock (R136), 08
section on squaring (R129, R130, R133).) -/
def Obligations.RackAndGraceGuardTheSlide : Prop :=
  (∀ (s : State), s.active = true → s.noPlan = true → s.isSlide = true → s.square.grace.isSome = true
        → s.orders.cur.isSome = true
        → ∃ t, exec .graceExpiry s = .next t
          ∧ (∀ ch ∈ s.chanIds, (t.chan ch).act = if (s.chan ch).carries then .halted else (s.chan ch).act)
          ∧ t.orders.cur = none ∧ t.supply.claim = none ∧ t.square = { rack := none, lost := false, grace := none }
          ∧ (s.missingJacks = []
              → t.stop.faults = s.stop.faults
                ∧ (s.bus.notices.length < 8
                    → ∃ n ∈ t.bus.notices, n.code = .refusal .interlock ∧ n.chan = .node ∧ n.requester = s.requester
                      ∧ n.order = s.curOrder))
          ∧ (∀ st ∈ s.missingJacks.head?, t.hasFault .peerLost = true
              ∧ (s.bus.notices.length < 8
                  → {
                      code := .fault .peerLost, chan := .node, requester := s.requester, order := s.curOrder,
                      detail := BitVec.ofNat 16 st } ∈ t.bus.notices)) ∧ s.sameOutside t ∧ s.samePlaces t)
    ∧ (∀ (s : State) (ch : ChanId), s.isSlide = true → s.cal.syncBand < s.cal.rLim
        → (s.bothKnown = false → s.squareRequest ch = 50)
          ∧ (s.bothKnown = true → (s.inEndZone .a s.taskDir || s.inEndZone .b s.taskDir) = true
              → s.baseRequest = 40)
          ∧ (s.bothKnown = true → (s.inEndZone .a s.taskDir || s.inEndZone .b s.taskDir) = false
              → s.baseRequest = 100)
          ∧ (s.bothKnown = true → s.leads ch = false → s.squareRequest ch = s.baseRequest)
          ∧ (s.bothKnown = true → s.rackSize ≤ s.cal.syncBand → s.squareRequest ch = s.baseRequest)
          ∧ (s.bothKnown = true → s.leads ch = true → s.cal.syncBand < s.rackSize → s.rackSize < s.cal.rLim
              → s.squareRequest ch =
                    min s.baseRequest (min s.supply.cap (min s.supply.droop s.thermalCap)) *
                      (s.cal.rLim - s.rackSize) / (s.cal.rLim - s.cal.syncBand)
                ∧ s.squareRequest ch ≤ min s.baseRequest (min s.supply.cap (min s.supply.droop s.thermalCap)))
          ∧ (s.bothKnown = true → s.leads ch = true → s.cal.rLim ≤ s.rackSize → s.composed ch = 0))

/-- In LISTEN or RUN with the window running, no wind retract carried, the idle time not reached, an allowance above
0 and a duty of the running step of at most 100: the own wind is the pulse count of a source, or the highest wind a
FRESH source entry shows (255 where none); at or above W_r the run grows to at most 3, spent is kept and the
hold-off starts from 0; below it the run is 0 and spent clears; unknown the run is 0 and spent is kept; with W_r 0
the run is 0 and spent clears. The pulse count and the window start again from 0. A pulse on a wind source counts
into the window in LISTEN and RUN, up to 254, and into the tally in WATCH, and changes nothing else; without a
source it changes nothing. HOLD_OFF_END in WATCH stops the hold-off and changes nothing else, and in LISTEN or RUN
it leaves the hold-off stopped. A channel's place is kept, or is that of a switch that reads closed where its order
ends there (DEDUCED, log 62). (09 sections on windows and runs (R139 to R141, R144), 09 (R139, R144), 12 (R168).) -/
def Obligations.WindowsAndPulsesMeasureTheWind : Prop :=
  (∀ (s : State), s.active = true → s.wind.window.isSome = true → s.orders.cur.map (·.task) ≠ some .windRetract
        → 0 < s.allowance → s.orders.idleReached = false → s.stepOk = true
        → ∃ t, exec .windWindowComplete s = .next t
          ∧ t.wind.own = (if s.cal.windSource then s.wind.pulses else highest (s.peers.filterMap Peer.windOffered))
          ∧ t.wind.pulses = 0 ∧ t.wind.window = some 0
          ∧ (s.cal.wR ≠ 0 → t.wind.own ≠ 255 → s.cal.wR ≤ t.wind.own
              → t.wind.highRun = min 3 (s.wind.highRun + 1) ∧ t.wind.spent = s.wind.spent ∧ t.wind.holdOff = some 0)
          ∧ (s.cal.wR ≠ 0 → t.wind.own ≠ 255 → t.wind.own < s.cal.wR
              → t.wind.highRun = 0 ∧ t.wind.spent = false ∧ t.wind.holdOff = s.wind.holdOff)
          ∧ (s.cal.wR ≠ 0 → t.wind.own = 255
              → t.wind.highRun = 0 ∧ t.wind.spent = s.wind.spent ∧ t.wind.holdOff = s.wind.holdOff)
          ∧ (s.cal.wR = 0 → t.wind.highRun = 0 ∧ t.wind.spent = false ∧ t.wind.holdOff = s.wind.holdOff)
          ∧ s.sameRecord t ∧ s.samePlacesOrEnds t ∧ t.peers = s.peers)
    ∧ (∀ (s : State), s.windSource = true → s.active = true
        → exec .anemPulse s = .next ({ s with wind := { s.wind with pulses := min 254 (s.wind.pulses + 1) } }))
    ∧ (∀ (s : State), s.windSource = true → s.node.mode = .watch
        → exec .anemPulse s = .next ({ s with watch := { s.watch with tally := s.watch.tally + 1 } }))
    ∧ (∀ (s : State), s.windSource = false → exec .anemPulse s = .next s)
    ∧ (∀ (s : State), s.node.mode = .watch
        → exec .holdOffEnd s = .next ({ s with wind := { s.wind with holdOff := none } }))
    ∧ (∀ (s : State), s.active = true
        → ∃ t, exec .holdOffEnd s = .next t ∧ t.wind.holdOff = none ∧ t.wind.own = s.wind.own ∧ s.sameRecord t
          ∧ s.samePlacesOrEnds t ∧ t.road.park = s.road.park ∧ t.peers = s.peers)

/-- On an awning in RUN, on the bus, at rest, not STOWED, with the line high and spent clear, a window at or above
W_r that completes a run of three, or follows one, leaves the AUTO wind retract carried, channel A WAITING to
retract, a claim of class 0, conflict quiet ended, and, with room in the queue, WIND_RETRACT noticed with the wind
of the window that completed the run as detail. (09 section on the wind retract (R142), 04 section 4.3 (R56), 06
(R88).) -/
def Obligations.HighWindRetractsTheAwning : Prop :=
  ∀ (s : State), s.node.mode = .run → s.node.role = .awning → s.bus.err ≠ .off → s.wind.window.isSome = true
    → s.rests = true → 0 < s.allowance → s.chA.cls ≠ .stowed → s.wind.spent = false → s.stop.sensedLow = false
    → s.cal.wR ≠ 0 → 2 ≤ s.wind.highRun → s.wind.highRun ≤ 3 → s.cal.wR ≤ s.windNow → s.windNow ≠ 255
    → ∃ t, exec .windWindowComplete s = .next t
      ∧ t.orders.cur = some { task := .windRetract, origin := .auto, panel := 0, press := none, override := false }
      ∧ t.chA.act = .waiting ∧ t.chA.order = some { origin := .auto, dir := .retract, age := 0 }
      ∧ t.supply.claim = some { amount := s.cal.chA.claim, baseClass := 0, standing := .unsent, settle := 0 }
      ∧ t.orders.quiet = none
      ∧ (s.bus.notices.length < 8
          → {
              code := .event .windRetract, chan := .a, requester := 0, order := some .retract,
              detail := BitVec.ofNat 16 (if s.wind.highRun = 2 then s.windNow else s.wind.runWind) } ∈
              t.bus.notices) ∧ s.sameRecord t ∧ s.samePlaces t ∧ t.peers = s.peers

/-- To the own station in LISTEN or RUN with defined fields, inhibit B left out of account on a jack or awning
(DEDUCED, log 18): with PARK not RELEASED or the lock clear, or with no inhibit lowered and the lock action not
CLEAR, the inhibits take their new values and the lock action is applied; otherwise nothing changes but a REFUSAL
INHIBITED (room in the queue) naming the first offending item of A, B, lock. Places and the road alarm are kept, or
follow a switch that reads closed where an order ends there (DEDUCED, log 62). (11 section on protection (R158,
R159).) -/
def Obligations.ProtectRequestIsDecided : Prop :=
  (∀ (source : Nat) (r : ProtectReq) (p : Protect) (s : State),
        s.delivers .protectRequest source = true → s.active = true → r.target.toNat = s.node.station
        → decodeProtect s.isSlide s.road.inhibitB r = some p
        → (s.road.park ≠ some false ∨ s.road.lock = false
            ∨ (inhibitRank s.road.inhibitA ≤ inhibitRank p.inhibitA
                ∧ inhibitRank s.road.inhibitB ≤ inhibitRank p.inhibitB ∧ p.lock ≠ .clear))
        → ∃ t, exec (.protectRequest source r) s = .next t ∧ t.road.inhibitA = p.inhibitA
          ∧ t.road.inhibitB = p.inhibitB
          ∧ t.road.lock = (match p.lock with | .keep => s.road.lock | .set => true | .clear => false)
          ∧ t.road.park = s.road.park ∧ s.sameAlarmOrEnds t ∧ s.sameRecord t ∧ s.samePlacesOrEnds t
          ∧ t.peers = s.peers ∧ t.inp = s.inp)
    ∧ (∀ (source : Nat) (r : ProtectReq) (p : Protect) (s : State),
        s.delivers .protectRequest source = true → s.active = true → r.target.toNat = s.node.station
        → decodeProtect s.isSlide s.road.inhibitB r = some p → s.road.park = some false → s.road.lock = true
        → (inhibitRank p.inhibitA < inhibitRank s.road.inhibitA
            ∨ inhibitRank p.inhibitB < inhibitRank s.road.inhibitB ∨ p.lock = .clear) → s.bus.notices.length < 8
        → ∃ t, exec (.protectRequest source r) s = .next t
          ∧ t = { receivedWhole s with
              bus := { (receivedWhole s).bus with
                  tx := t.bus.tx,
                  notices := s.bus.notices ++ [{
                        code := .refusal .inhibited, chan := .node, requester := source, order := none,
                        detail := if inhibitRank p.inhibitA < inhibitRank s.road.inhibitA then 1
                          else if inhibitRank p.inhibitB < inhibitRank s.road.inhibitB then 2 else 3 }] } })

/-- In LISTEN or RUN with PARK taken ASSERTED: PARK is then RELEASED, no channel carries an extend order, no order
extends, no cursor stands, a jack's phase is NONE with no leg, the alarm is set exactly when the node is not STOWED;
conflict quiet is as it was or over; protection set, hold-off, places and peer table are kept. In LISTEN or RUN
without a plan, with PARK taken RELEASED: PARK is then ASSERTED, the alarm clear and the stow standing NONE; a road
stow that ran is over with its channels IDLE and its claim gone; on a node at rest no channel changes its activity,
no order begins and the protection set is kept. A road release in RUN, on the bus, leaves the stow standing NONE on
a slide or with auto-stow clear (where no road stow runs, as none does while PARK stands asserted); with auto-stow
set, ENDED on a STOWED jack or awning and on an awning whose wind retract runs; on a node at rest that is not
STOWED, RUNNING on an awning, and on a jack RUNNING where the stow wait is met and HELD_BACK, with no channel moved,
where it is not. A standing of RUNNING so begun has an AUTO order in retract on channel A, WAITING, with a claim of
class 0 UNSENT and conflict quiet over. A beacon that meets the stow wait of a jack HELD_BACK at rest raises its
stow, and a STOWED jack's standing is then ENDED (DESIGN CHOICE, log 33). A HALT of a road stow, and its end of
travel at the home switch, end the standing; an accepted restart with PARK still released leaves it PENDING; and a
standing PENDING or due raises the stow of an awning at rest at the next entry to RUN. A channel's place is kept, or
is that of a switch that reads closed where its order ends there (DEDUCED, log 62). (11 section on road release
(R160, R161), 11 section on re-assertion (R164), 11 sections on the road stow (R160, R162, R163), 04 (R56).) -/
def Obligations.ParkChangesStopExtensionsAndStows : Prop :=
  (∀ (s : State), s.active = true → s.road.park = some true
        → ∃ t, exec .roadRelease s = .next t ∧ t.road.park = some false
          ∧ (∀ ch ∈ s.chanIds, (t.chan ch).carries = true → (t.chan ch).dir ≠ some .extend)
          ∧ t.orders.cur.map (·.task.dir) ≠ some .extend ∧ t.orders.cursor = none
          ∧ (s.isJack = true → t.level.phase = .none ∧ t.level.leg = none)
          ∧ t.road.alarm = decide (t.nodeClass ≠ .stowed) ∧ t.road.inhibitA = s.road.inhibitA
          ∧ t.road.inhibitB = s.road.inhibitB ∧ t.road.lock = s.road.lock ∧ t.wind.holdOff = s.wind.holdOff
          ∧ (t.orders.quiet = s.orders.quiet ∨ t.orders.quiet = none) ∧ s.sameRecord t ∧ s.samePlacesOrEnds t
          ∧ t.peers = s.peers)
    ∧ (∀ (s : State), s.active = true → s.noPlan = true → s.road.park = some false
        → s.orders.cur.map (·.task) = some .roadStow
        → ∃ t, exec .parkAssert s = .next t
          ∧ t.road = { s.road with park := some true, alarm := false, stow := .none, stowDue := false }
          ∧ t.orders.cur = none ∧ t.supply.claim = none
          ∧ (∀ ch ∈ s.chanIds, (t.chan ch).act = if (s.chan ch).carries then .idle else (s.chan ch).act)
          ∧ s.sameRecord t ∧ s.samePlaces t ∧ t.peers = s.peers)
    ∧ (∀ (s : State), s.active = true → s.noPlan = true → s.road.park = some false → s.rests = true
        → ∃ t, exec .parkAssert s = .next t
          ∧ t.road = { s.road with park := some true, alarm := false, stow := .none, stowDue := false }
          ∧ t.orders.cur = none ∧ (∀ ch ∈ s.chanIds, (t.chan ch).act = (s.chan ch).act) ∧ s.sameRecord t
          ∧ s.samePlaces t ∧ t.peers = s.peers)
    ∧ (∀ (s : State), s.node.mode = .run → s.bus.err ≠ .off → s.road.park = some true
        → s.orders.cur.map (·.task) ≠ some .roadStow → (s.isSlide = true ∨ s.cal.autoStow = false)
        → ∃ t, exec .roadRelease s = .next t ∧ t.road.stow = .none ∧ t.road.stowDue = false ∧ s.sameRecord t
          ∧ s.samePlacesOrEnds t)
    ∧ (∀ (s : State), s.node.mode = .run → s.bus.err ≠ .off → s.road.park = some true → s.isSlide = false
        → s.cal.autoStow = true
        → (s.chA.cls = .stowed
            ∨ (s.isJack = false ∧ s.orders.cur.map (·.task) = some .windRetract ∧ s.chA.dir = some .retract
                ∧ s.orders.cursor = none))
        → ∃ t, exec .roadRelease s = .next t ∧ t.road.stow = .ended ∧ t.road.stowDue = false ∧ s.sameRecord t
          ∧ s.samePlacesOrEnds t)
    ∧ (∀ (s : State), s.node.mode = .run → s.bus.err ≠ .off → s.road.park = some true → s.isSlide = false
        → s.cal.autoStow = true → s.chA.cls ≠ .stowed → s.rests = true → 0 < s.allowance
        → (s.isJack = false ∨ s.stowWaitMet = true)
        → ∃ t, exec .roadRelease s = .next t ∧ t.road.stow = .running
          ∧ t.orders.cur = some { task := .roadStow, origin := .auto, panel := 0, press := none, override := false }
          ∧ t.chA.act = .waiting ∧ t.chA.order = some { origin := .auto, dir := .retract, age := 0 }
          ∧ t.supply.claim = some { amount := s.claimAmount, baseClass := 0, standing := .unsent, settle := 0 }
          ∧ t.orders.hold = none ∧ t.orders.quiet = none ∧ s.sameRecord t ∧ s.samePlaces t ∧ t.peers = s.peers)
    ∧ (∀ (s : State), s.node.mode = .run → s.bus.err ≠ .off → s.road.park = some true → s.isJack = true
        → s.cal.autoStow = true → s.chA.cls ≠ .stowed → s.rests = true → s.stowWaitMet = false
        → ∃ t, exec .roadRelease s = .next t ∧ t.road.stow = .heldBack
          ∧ (∀ ch ∈ s.chanIds, (t.chan ch).act = (s.chan ch).act) ∧ t.orders.cur = none ∧ t.supply.claim = none
          ∧ s.sameRecord t ∧ s.samePlaces t ∧ t.peers = s.peers)
    ∧ (∀ (source : Nat) (d : Data8) (b : Beacon) (s : State), s.delivers .postureBeacon source = true
        → s.node.mode = .run → source ≠ s.node.station → decodeBeacon source d = some b → s.isJack = true
        → s.road.stow = .heldBack → s.rests = true → s.level.phase = .none → 0 < s.allowance
        → (applyBeacon source b s).stowWaitMet = true
        → ∃ t, exec (.postureBeacon source d) s = .next t
          ∧ (s.chA.cls = .stowed
              → t.road.stow = .ended ∧ (∀ ch ∈ s.chanIds, (t.chan ch).act = (s.chan ch).act) ∧ t.orders.cur = none)
          ∧ (s.chA.cls ≠ .stowed
              → t.road.stow = .running
                ∧ t.orders.cur = some {
                    task := .roadStow, origin := .auto, panel := 0, press := none, override := false }
                ∧ t.chA.act = .waiting ∧ t.chA.order = some { origin := .auto, dir := .retract, age := 0 }
                ∧ t.supply.claim = some {
                    amount := s.claimAmount, baseClass := 0, standing := .unsent, settle := 0 }
                ∧ t.orders.hold = none ∧ t.orders.quiet = none) ∧ s.sameRecord t ∧ s.samePlaces t)
    ∧ (∀ (r : MotionReq) (s : State), s.takes r = true → s.orders.cur.map (·.task) = some .roadStow
        → ∃ t, exec (.halt r) s = .next t ∧ t.road.stow = .ended ∧ t.orders.cur = none ∧ s.sameRecord t
          ∧ s.samePlaces t ∧ t.peers = s.peers)
    ∧ (∀ (s : State), s.active = true → s.noPlan = true → s.isSlide = false
        → (s.isJack = true ∨ s.chA.outClosed = false) → s.orders.cur.map (·.task) = some .roadStow
        → s.chA.carries = true → s.chA.dir = some .retract
        → ∃ t, exec (.homeSwitchClose .a) s = .next t ∧ t.road.stow = .ended ∧ t.orders.cur = none
          ∧ t.supply.claim = none ∧ t.chA.act = .idle ∧ t.chA.cls = .stowed ∧ s.sameRecord t ∧ t.peers = s.peers)
    ∧ (∀ (source : Nat) (target : Byte) (inp : Inputs) (s : State),
        s.delivers .restartRequest source = true → s.active = true → byteNames target s.node.station = true
        → s.orders.cur.map (·.task) = some .roadStow → s.road.park = some false → inp.parkAsserted = false
        → ∃ t, exec (.restartRequest source target inp) s = .next t ∧ t.road.stow = .pending ∧ t.orders.cur = none
          ∧ s.sameRecord t)
    ∧ (∀ (s : State), s.node.mode = .listen → s.node.listen.isSome = true → s.bus.err ≠ .off
        → s.cal.vFloor ≤ s.inp.vs → s.node.role = .awning → s.cal.autoStow = true → s.road.park = some false
        → (s.road.stowDue = true ∨ s.road.stow = .pending) → s.chA.cls ≠ .stowed → s.rests = true → 0 < s.allowance
        → s.wind.highRun < 3
        → ∃ t, exec .listenWindowEnd s = .next t ∧ t.node.mode = .run ∧ t.road.stowDue = false
          ∧ t.road.stow = .running
          ∧ t.orders.cur = some { task := .roadStow, origin := .auto, panel := 0, press := none, override := false }
          ∧ t.chA.act = .waiting ∧ t.chA.order = some { origin := .auto, dir := .retract, age := 0 }
          ∧ t.supply.claim = some { amount := s.claimAmount, baseClass := 0, standing := .unsent, settle := 0 }
          ∧ t.orders.hold = none ∧ t.orders.quiet = none ∧ s.sameRecord t ∧ s.samePlaces t ∧ t.peers = s.peers)

/-- In WATCH, on a driver that does not overheat, without order, claim and own drive as
OrdersChannelsAndSessionsAgree keeps WATCH: the node is then in LISTEN with its window at 0, the cause in its
beacons, a beacon pending, an empty peer table, press list and watch unit, record and protection kept, and a WAKE
CALL with the cause pending for every cause but BUS (one already pending stands with its cause: DESIGN CHOICE, log
65). In WATCH with the poll timer running: below V_floor (below V_droop while paused) the poll is skipped, the pause
set and the tally and timer start again; otherwise, with no entry that wakes, the pause and tally clear, at the
first poll made the switches open in the snapshot lose their mark, and the timer runs on exactly when a mark is
left. Only the watch unit and the inputs change, and the inputs keep the supply reading of a skipped poll (DESIGN
CHOICE, log 42). (12 sections on polls and wakes (R168, R170, R171), 12 section on polls (R168, R169).) -/
def Obligations.WatchPollsAndWakes : Prop :=
  (∀ (inp : Inputs) (s : State), s.node.mode = .watch → s.ordersOk = true → overheats inp = false
        → ∃ t, exec (.wakeStopLine inp) s = .next t ∧ t.node.mode = .listen ∧ t.node.listen = some 0
          ∧ t.bus.wakeCause = .stopLine ∧ t.bus.beaconTimer = some 0 ∧ t.bus.beaconSlot = .pending
          ∧ t.bus.standby = false ∧ t.peers = [] ∧ t.orders.presses = [] ∧ t.orders.quiet = none
          ∧ t.watch = { snap := [], firstPoll := false, poll := none, lowPause := false, tally := 0 }
          ∧ t.bus.wakeCall = (s.bus.wakeCall <|> some .stopLine) ∧ t.node.wokeBy = .stopLine ∧ s.sameRecord t
          ∧ t.inp = inp ∧ t.road.inhibitA = s.road.inhibitA ∧ t.road.inhibitB = s.road.inhibitB
          ∧ t.road.lock = s.road.lock)
    ∧ (∀ (inp : Inputs) (s : State), s.node.mode = .watch → s.ordersOk = true → s.bus.standby = true
        → overheats inp = false
        → ∃ t, exec (.wakeBus inp) s = .next t ∧ t.node.mode = .listen ∧ t.node.listen = some 0
          ∧ t.bus.wakeCause = .bus ∧ t.bus.beaconTimer = some 0 ∧ t.bus.beaconSlot = .pending
          ∧ t.bus.standby = false ∧ t.peers = [] ∧ t.orders.presses = [] ∧ t.orders.quiet = none
          ∧ t.watch = { snap := [], firstPoll := false, poll := none, lowPause := false, tally := 0 }
          ∧ t.bus.wakeCall = s.bus.wakeCall ∧ t.node.wokeBy = .bus ∧ s.sameRecord t ∧ t.inp = inp
          ∧ t.road.inhibitA = s.road.inhibitA ∧ t.road.inhibitB = s.road.inhibitB ∧ t.road.lock = s.road.lock)
    ∧ (∀ (inp : Inputs) (cause : WakeCause) (s : State), s.node.mode = .watch → s.ordersOk = true
        → s.watch.poll.isSome = true → overheats inp = false
        → (if s.watch.lowPause then s.cal.vDroop else s.cal.vFloor) ≤ inp.vs
        → pollCause (s.watch.snap.filterMap (s.entryWakes inp)) = some cause
        → ∃ t, exec (.poll inp) s = .next t ∧ t.node.mode = .listen ∧ t.node.listen = some 0
          ∧ t.bus.wakeCause = cause ∧ t.bus.beaconTimer = some 0 ∧ t.bus.beaconSlot = .pending
          ∧ t.bus.standby = false ∧ t.peers = [] ∧ t.orders.presses = [] ∧ t.orders.quiet = none
          ∧ t.watch = { snap := [], firstPoll := false, poll := none, lowPause := false, tally := 0 }
          ∧ t.bus.wakeCall = (s.bus.wakeCall <|> some cause) ∧ t.node.wokeBy = cause ∧ s.sameRecord t ∧ t.inp = inp
          ∧ t.road.inhibitA = s.road.inhibitA ∧ t.road.inhibitB = s.road.inhibitB ∧ t.road.lock = s.road.lock
          ∧ (cause = .tilt ∨ cause = .wind ∨ cause = .input)
          ∧ (cause = .wind → t.wind.highRun = 3 ∧ t.wind.spent = false ∧ t.wind.holdOff = some 0))
    ∧ (∀ (inp : Inputs) (s : State), s.node.mode = .watch → s.watch.poll.isSome = true
        → inp.vs < (if s.watch.lowPause then s.cal.vDroop else s.cal.vFloor)
        → exec (.poll inp) s = .next ({ s with
              inp := { s.inp with vs := inp.vs },
              watch := { s.watch with lowPause := true, tally := 0, poll := some 0 } }))
    ∧ (∀ (inp : Inputs) (s : State), s.node.mode = .watch → s.watch.poll.isSome = true
        → (if s.watch.lowPause then s.cal.vDroop else s.cal.vFloor) ≤ inp.vs
        → pollCause (s.watch.snap.filterMap (s.entryWakes inp)) = none
        → ∃ t, exec (.poll inp) s = .next t
          ∧ t = { s with
              inp := inp,
              watch := { s.watch with
                  snap := t.watch.snap, firstPoll := true, lowPause := false, tally := 0, poll := t.watch.poll } }
          ∧ (t.watch.poll = if t.watch.snap.any (·.polled) then some 0 else none)
          ∧ (s.watch.firstPoll = true → t.watch.snap = s.watch.snap)
          ∧ (s.watch.firstPoll = false
              → t.watch.snap =
                  s.watch.snap.map fun e => (match e.kind with
                    | .switch _ false => { e with polled := false }
                    | _ => e)))
end

