-- ==== Sys2Proof/Laws/State.lean ====
section
/-! SUPPORT. One lemma per field per update of the state: an update of one block sets that block and leaves every
other field as it was. -/

namespace Sys2Proof.Machine

/-! ### `onNode` -/

@[simp] theorem State.onNode_node (f : Node → Node) (s : State) : (s.onNode f).node = f s.node := rfl
@[simp] theorem State.onNode_store (f : Node → Node) (s : State) : (s.onNode f).store = s.store := rfl
@[simp] theorem State.onNode_cal (f : Node → Node) (s : State) : (s.onNode f).cal = s.cal := rfl
@[simp] theorem State.onNode_inp (f : Node → Node) (s : State) : (s.onNode f).inp = s.inp := rfl
@[simp] theorem State.onNode_bus (f : Node → Node) (s : State) : (s.onNode f).bus = s.bus := rfl
@[simp] theorem State.onNode_peers (f : Node → Node) (s : State) : (s.onNode f).peers = s.peers := rfl
@[simp] theorem State.onNode_orders (f : Node → Node) (s : State) : (s.onNode f).orders = s.orders := rfl
@[simp] theorem State.onNode_chA (f : Node → Node) (s : State) : (s.onNode f).chA = s.chA := rfl
@[simp] theorem State.onNode_chB (f : Node → Node) (s : State) : (s.onNode f).chB = s.chB := rfl
@[simp] theorem State.onNode_step (f : Node → Node) (s : State) : (s.onNode f).step = s.step := rfl
@[simp] theorem State.onNode_supply (f : Node → Node) (s : State) : (s.onNode f).supply = s.supply := rfl
@[simp] theorem State.onNode_level (f : Node → Node) (s : State) : (s.onNode f).level = s.level := rfl
@[simp] theorem State.onNode_square (f : Node → Node) (s : State) : (s.onNode f).square = s.square := rfl
@[simp] theorem State.onNode_wind (f : Node → Node) (s : State) : (s.onNode f).wind = s.wind := rfl
@[simp] theorem State.onNode_stop (f : Node → Node) (s : State) : (s.onNode f).stop = s.stop := rfl
@[simp] theorem State.onNode_road (f : Node → Node) (s : State) : (s.onNode f).road = s.road := rfl
@[simp] theorem State.onNode_watch (f : Node → Node) (s : State) : (s.onNode f).watch = s.watch := rfl
@[simp] theorem State.onNode_free (f : Node → Node) (s : State) : (s.onNode f).free = s.free := rfl
@[simp] theorem State.onNode_pending (f : Node → Node) (s : State) : (s.onNode f).pending = s.pending := rfl

/-! ### `onStore` -/

@[simp] theorem State.onStore_node (f : Store → Store) (s : State) : (s.onStore f).node = s.node := rfl
@[simp] theorem State.onStore_store (f : Store → Store) (s : State) : (s.onStore f).store = f s.store := rfl
@[simp] theorem State.onStore_cal (f : Store → Store) (s : State) : (s.onStore f).cal = s.cal := rfl
@[simp] theorem State.onStore_inp (f : Store → Store) (s : State) : (s.onStore f).inp = s.inp := rfl
@[simp] theorem State.onStore_bus (f : Store → Store) (s : State) : (s.onStore f).bus = s.bus := rfl
@[simp] theorem State.onStore_peers (f : Store → Store) (s : State) : (s.onStore f).peers = s.peers := rfl
@[simp] theorem State.onStore_orders (f : Store → Store) (s : State) : (s.onStore f).orders = s.orders := rfl
@[simp] theorem State.onStore_chA (f : Store → Store) (s : State) : (s.onStore f).chA = s.chA := rfl
@[simp] theorem State.onStore_chB (f : Store → Store) (s : State) : (s.onStore f).chB = s.chB := rfl
@[simp] theorem State.onStore_step (f : Store → Store) (s : State) : (s.onStore f).step = s.step := rfl
@[simp] theorem State.onStore_supply (f : Store → Store) (s : State) : (s.onStore f).supply = s.supply := rfl
@[simp] theorem State.onStore_level (f : Store → Store) (s : State) : (s.onStore f).level = s.level := rfl
@[simp] theorem State.onStore_square (f : Store → Store) (s : State) : (s.onStore f).square = s.square := rfl
@[simp] theorem State.onStore_wind (f : Store → Store) (s : State) : (s.onStore f).wind = s.wind := rfl
@[simp] theorem State.onStore_stop (f : Store → Store) (s : State) : (s.onStore f).stop = s.stop := rfl
@[simp] theorem State.onStore_road (f : Store → Store) (s : State) : (s.onStore f).road = s.road := rfl
@[simp] theorem State.onStore_watch (f : Store → Store) (s : State) : (s.onStore f).watch = s.watch := rfl
@[simp] theorem State.onStore_free (f : Store → Store) (s : State) : (s.onStore f).free = s.free := rfl
@[simp] theorem State.onStore_pending (f : Store → Store) (s : State) : (s.onStore f).pending = s.pending := rfl

/-! ### `setCal` -/

@[simp] theorem State.setCal_node (c : Cal) (s : State) : (s.setCal c).node = s.node := rfl
@[simp] theorem State.setCal_store (c : Cal) (s : State) : (s.setCal c).store = s.store := rfl
@[simp] theorem State.setCal_cal (c : Cal) (s : State) : (s.setCal c).cal = c := rfl
@[simp] theorem State.setCal_inp (c : Cal) (s : State) : (s.setCal c).inp = s.inp := rfl
@[simp] theorem State.setCal_bus (c : Cal) (s : State) : (s.setCal c).bus = s.bus := rfl
@[simp] theorem State.setCal_peers (c : Cal) (s : State) : (s.setCal c).peers = s.peers := rfl
@[simp] theorem State.setCal_orders (c : Cal) (s : State) : (s.setCal c).orders = s.orders := rfl
@[simp] theorem State.setCal_chA (c : Cal) (s : State) : (s.setCal c).chA = s.chA := rfl
@[simp] theorem State.setCal_chB (c : Cal) (s : State) : (s.setCal c).chB = s.chB := rfl
@[simp] theorem State.setCal_step (c : Cal) (s : State) : (s.setCal c).step = s.step := rfl
@[simp] theorem State.setCal_supply (c : Cal) (s : State) : (s.setCal c).supply = s.supply := rfl
@[simp] theorem State.setCal_level (c : Cal) (s : State) : (s.setCal c).level = s.level := rfl
@[simp] theorem State.setCal_square (c : Cal) (s : State) : (s.setCal c).square = s.square := rfl
@[simp] theorem State.setCal_wind (c : Cal) (s : State) : (s.setCal c).wind = s.wind := rfl
@[simp] theorem State.setCal_stop (c : Cal) (s : State) : (s.setCal c).stop = s.stop := rfl
@[simp] theorem State.setCal_road (c : Cal) (s : State) : (s.setCal c).road = s.road := rfl
@[simp] theorem State.setCal_watch (c : Cal) (s : State) : (s.setCal c).watch = s.watch := rfl
@[simp] theorem State.setCal_free (c : Cal) (s : State) : (s.setCal c).free = s.free := rfl
@[simp] theorem State.setCal_pending (c : Cal) (s : State) : (s.setCal c).pending = s.pending := rfl

/-! ### `onInp` -/

@[simp] theorem State.onInp_node (f : Inputs → Inputs) (s : State) : (s.onInp f).node = s.node := rfl
@[simp] theorem State.onInp_store (f : Inputs → Inputs) (s : State) : (s.onInp f).store = s.store := rfl
@[simp] theorem State.onInp_cal (f : Inputs → Inputs) (s : State) : (s.onInp f).cal = s.cal := rfl
@[simp] theorem State.onInp_inp (f : Inputs → Inputs) (s : State) : (s.onInp f).inp = f s.inp := rfl
@[simp] theorem State.onInp_bus (f : Inputs → Inputs) (s : State) : (s.onInp f).bus = s.bus := rfl
@[simp] theorem State.onInp_peers (f : Inputs → Inputs) (s : State) : (s.onInp f).peers = s.peers := rfl
@[simp] theorem State.onInp_orders (f : Inputs → Inputs) (s : State) : (s.onInp f).orders = s.orders := rfl
@[simp] theorem State.onInp_chA (f : Inputs → Inputs) (s : State) : (s.onInp f).chA = s.chA := rfl
@[simp] theorem State.onInp_chB (f : Inputs → Inputs) (s : State) : (s.onInp f).chB = s.chB := rfl
@[simp] theorem State.onInp_step (f : Inputs → Inputs) (s : State) : (s.onInp f).step = s.step := rfl
@[simp] theorem State.onInp_supply (f : Inputs → Inputs) (s : State) : (s.onInp f).supply = s.supply := rfl
@[simp] theorem State.onInp_level (f : Inputs → Inputs) (s : State) : (s.onInp f).level = s.level := rfl
@[simp] theorem State.onInp_square (f : Inputs → Inputs) (s : State) : (s.onInp f).square = s.square := rfl
@[simp] theorem State.onInp_wind (f : Inputs → Inputs) (s : State) : (s.onInp f).wind = s.wind := rfl
@[simp] theorem State.onInp_stop (f : Inputs → Inputs) (s : State) : (s.onInp f).stop = s.stop := rfl
@[simp] theorem State.onInp_road (f : Inputs → Inputs) (s : State) : (s.onInp f).road = s.road := rfl
@[simp] theorem State.onInp_watch (f : Inputs → Inputs) (s : State) : (s.onInp f).watch = s.watch := rfl
@[simp] theorem State.onInp_free (f : Inputs → Inputs) (s : State) : (s.onInp f).free = s.free := rfl
@[simp] theorem State.onInp_pending (f : Inputs → Inputs) (s : State) : (s.onInp f).pending = s.pending := rfl

/-! ### `onBus` -/

@[simp] theorem State.onBus_node (f : Bus → Bus) (s : State) : (s.onBus f).node = s.node := rfl
@[simp] theorem State.onBus_store (f : Bus → Bus) (s : State) : (s.onBus f).store = s.store := rfl
@[simp] theorem State.onBus_cal (f : Bus → Bus) (s : State) : (s.onBus f).cal = s.cal := rfl
@[simp] theorem State.onBus_inp (f : Bus → Bus) (s : State) : (s.onBus f).inp = s.inp := rfl
@[simp] theorem State.onBus_bus (f : Bus → Bus) (s : State) : (s.onBus f).bus = f s.bus := rfl
@[simp] theorem State.onBus_peers (f : Bus → Bus) (s : State) : (s.onBus f).peers = s.peers := rfl
@[simp] theorem State.onBus_orders (f : Bus → Bus) (s : State) : (s.onBus f).orders = s.orders := rfl
@[simp] theorem State.onBus_chA (f : Bus → Bus) (s : State) : (s.onBus f).chA = s.chA := rfl
@[simp] theorem State.onBus_chB (f : Bus → Bus) (s : State) : (s.onBus f).chB = s.chB := rfl
@[simp] theorem State.onBus_step (f : Bus → Bus) (s : State) : (s.onBus f).step = s.step := rfl
@[simp] theorem State.onBus_supply (f : Bus → Bus) (s : State) : (s.onBus f).supply = s.supply := rfl
@[simp] theorem State.onBus_level (f : Bus → Bus) (s : State) : (s.onBus f).level = s.level := rfl
@[simp] theorem State.onBus_square (f : Bus → Bus) (s : State) : (s.onBus f).square = s.square := rfl
@[simp] theorem State.onBus_wind (f : Bus → Bus) (s : State) : (s.onBus f).wind = s.wind := rfl
@[simp] theorem State.onBus_stop (f : Bus → Bus) (s : State) : (s.onBus f).stop = s.stop := rfl
@[simp] theorem State.onBus_road (f : Bus → Bus) (s : State) : (s.onBus f).road = s.road := rfl
@[simp] theorem State.onBus_watch (f : Bus → Bus) (s : State) : (s.onBus f).watch = s.watch := rfl
@[simp] theorem State.onBus_free (f : Bus → Bus) (s : State) : (s.onBus f).free = s.free := rfl
@[simp] theorem State.onBus_pending (f : Bus → Bus) (s : State) : (s.onBus f).pending = s.pending := rfl

/-! ### `onPeers` -/

@[simp] theorem State.onPeers_node (f : List Peer → List Peer) (s : State) : (s.onPeers f).node = s.node := rfl
@[simp] theorem State.onPeers_store (f : List Peer → List Peer) (s : State) : (s.onPeers f).store = s.store := rfl
@[simp] theorem State.onPeers_cal (f : List Peer → List Peer) (s : State) : (s.onPeers f).cal = s.cal := rfl
@[simp] theorem State.onPeers_inp (f : List Peer → List Peer) (s : State) : (s.onPeers f).inp = s.inp := rfl
@[simp] theorem State.onPeers_bus (f : List Peer → List Peer) (s : State) : (s.onPeers f).bus = s.bus := rfl
@[simp] theorem State.onPeers_peers (f : List Peer → List Peer) (s : State) : (s.onPeers f).peers = f s.peers := rfl
@[simp] theorem State.onPeers_orders (f : List Peer → List Peer) (s : State) : (s.onPeers f).orders = s.orders := rfl
@[simp] theorem State.onPeers_chA (f : List Peer → List Peer) (s : State) : (s.onPeers f).chA = s.chA := rfl
@[simp] theorem State.onPeers_chB (f : List Peer → List Peer) (s : State) : (s.onPeers f).chB = s.chB := rfl
@[simp] theorem State.onPeers_step (f : List Peer → List Peer) (s : State) : (s.onPeers f).step = s.step := rfl
@[simp] theorem State.onPeers_supply (f : List Peer → List Peer) (s : State) : (s.onPeers f).supply = s.supply := rfl
@[simp] theorem State.onPeers_level (f : List Peer → List Peer) (s : State) : (s.onPeers f).level = s.level := rfl
@[simp] theorem State.onPeers_square (f : List Peer → List Peer) (s : State) : (s.onPeers f).square = s.square := rfl
@[simp] theorem State.onPeers_wind (f : List Peer → List Peer) (s : State) : (s.onPeers f).wind = s.wind := rfl
@[simp] theorem State.onPeers_stop (f : List Peer → List Peer) (s : State) : (s.onPeers f).stop = s.stop := rfl
@[simp] theorem State.onPeers_road (f : List Peer → List Peer) (s : State) : (s.onPeers f).road = s.road := rfl
@[simp] theorem State.onPeers_watch (f : List Peer → List Peer) (s : State) : (s.onPeers f).watch = s.watch := rfl
@[simp] theorem State.onPeers_free (f : List Peer → List Peer) (s : State) : (s.onPeers f).free = s.free := rfl
@[simp] theorem State.onPeers_pending (f : List Peer → List Peer) (s : State) : (s.onPeers f).pending = s.pending := rfl

/-! ### `onOrders` -/

@[simp] theorem State.onOrders_node (f : Orders → Orders) (s : State) : (s.onOrders f).node = s.node := rfl
@[simp] theorem State.onOrders_store (f : Orders → Orders) (s : State) : (s.onOrders f).store = s.store := rfl
@[simp] theorem State.onOrders_cal (f : Orders → Orders) (s : State) : (s.onOrders f).cal = s.cal := rfl
@[simp] theorem State.onOrders_inp (f : Orders → Orders) (s : State) : (s.onOrders f).inp = s.inp := rfl
@[simp] theorem State.onOrders_bus (f : Orders → Orders) (s : State) : (s.onOrders f).bus = s.bus := rfl
@[simp] theorem State.onOrders_peers (f : Orders → Orders) (s : State) : (s.onOrders f).peers = s.peers := rfl
@[simp] theorem State.onOrders_orders (f : Orders → Orders) (s : State) : (s.onOrders f).orders = f s.orders := rfl
@[simp] theorem State.onOrders_chA (f : Orders → Orders) (s : State) : (s.onOrders f).chA = s.chA := rfl
@[simp] theorem State.onOrders_chB (f : Orders → Orders) (s : State) : (s.onOrders f).chB = s.chB := rfl
@[simp] theorem State.onOrders_step (f : Orders → Orders) (s : State) : (s.onOrders f).step = s.step := rfl
@[simp] theorem State.onOrders_supply (f : Orders → Orders) (s : State) : (s.onOrders f).supply = s.supply := rfl
@[simp] theorem State.onOrders_level (f : Orders → Orders) (s : State) : (s.onOrders f).level = s.level := rfl
@[simp] theorem State.onOrders_square (f : Orders → Orders) (s : State) : (s.onOrders f).square = s.square := rfl
@[simp] theorem State.onOrders_wind (f : Orders → Orders) (s : State) : (s.onOrders f).wind = s.wind := rfl
@[simp] theorem State.onOrders_stop (f : Orders → Orders) (s : State) : (s.onOrders f).stop = s.stop := rfl
@[simp] theorem State.onOrders_road (f : Orders → Orders) (s : State) : (s.onOrders f).road = s.road := rfl
@[simp] theorem State.onOrders_watch (f : Orders → Orders) (s : State) : (s.onOrders f).watch = s.watch := rfl
@[simp] theorem State.onOrders_free (f : Orders → Orders) (s : State) : (s.onOrders f).free = s.free := rfl
@[simp] theorem State.onOrders_pending (f : Orders → Orders) (s : State) : (s.onOrders f).pending = s.pending := rfl

/-! ### `onChA` -/

@[simp] theorem State.onChA_node (f : Channel → Channel) (s : State) : (s.onChA f).node = s.node := rfl
@[simp] theorem State.onChA_store (f : Channel → Channel) (s : State) : (s.onChA f).store = s.store := rfl
@[simp] theorem State.onChA_cal (f : Channel → Channel) (s : State) : (s.onChA f).cal = s.cal := rfl
@[simp] theorem State.onChA_inp (f : Channel → Channel) (s : State) : (s.onChA f).inp = s.inp := rfl
@[simp] theorem State.onChA_bus (f : Channel → Channel) (s : State) : (s.onChA f).bus = s.bus := rfl
@[simp] theorem State.onChA_peers (f : Channel → Channel) (s : State) : (s.onChA f).peers = s.peers := rfl
@[simp] theorem State.onChA_orders (f : Channel → Channel) (s : State) : (s.onChA f).orders = s.orders := rfl
@[simp] theorem State.onChA_chA (f : Channel → Channel) (s : State) : (s.onChA f).chA = f s.chA := rfl
@[simp] theorem State.onChA_chB (f : Channel → Channel) (s : State) : (s.onChA f).chB = s.chB := rfl
@[simp] theorem State.onChA_step (f : Channel → Channel) (s : State) : (s.onChA f).step = s.step := rfl
@[simp] theorem State.onChA_supply (f : Channel → Channel) (s : State) : (s.onChA f).supply = s.supply := rfl
@[simp] theorem State.onChA_level (f : Channel → Channel) (s : State) : (s.onChA f).level = s.level := rfl
@[simp] theorem State.onChA_square (f : Channel → Channel) (s : State) : (s.onChA f).square = s.square := rfl
@[simp] theorem State.onChA_wind (f : Channel → Channel) (s : State) : (s.onChA f).wind = s.wind := rfl
@[simp] theorem State.onChA_stop (f : Channel → Channel) (s : State) : (s.onChA f).stop = s.stop := rfl
@[simp] theorem State.onChA_road (f : Channel → Channel) (s : State) : (s.onChA f).road = s.road := rfl
@[simp] theorem State.onChA_watch (f : Channel → Channel) (s : State) : (s.onChA f).watch = s.watch := rfl
@[simp] theorem State.onChA_free (f : Channel → Channel) (s : State) : (s.onChA f).free = s.free := rfl
@[simp] theorem State.onChA_pending (f : Channel → Channel) (s : State) : (s.onChA f).pending = s.pending := rfl

/-! ### `onChB` -/

@[simp] theorem State.onChB_node (f : Channel → Channel) (s : State) : (s.onChB f).node = s.node := rfl
@[simp] theorem State.onChB_store (f : Channel → Channel) (s : State) : (s.onChB f).store = s.store := rfl
@[simp] theorem State.onChB_cal (f : Channel → Channel) (s : State) : (s.onChB f).cal = s.cal := rfl
@[simp] theorem State.onChB_inp (f : Channel → Channel) (s : State) : (s.onChB f).inp = s.inp := rfl
@[simp] theorem State.onChB_bus (f : Channel → Channel) (s : State) : (s.onChB f).bus = s.bus := rfl
@[simp] theorem State.onChB_peers (f : Channel → Channel) (s : State) : (s.onChB f).peers = s.peers := rfl
@[simp] theorem State.onChB_orders (f : Channel → Channel) (s : State) : (s.onChB f).orders = s.orders := rfl
@[simp] theorem State.onChB_chA (f : Channel → Channel) (s : State) : (s.onChB f).chA = s.chA := rfl
@[simp] theorem State.onChB_chB (f : Channel → Channel) (s : State) : (s.onChB f).chB = f s.chB := rfl
@[simp] theorem State.onChB_step (f : Channel → Channel) (s : State) : (s.onChB f).step = s.step := rfl
@[simp] theorem State.onChB_supply (f : Channel → Channel) (s : State) : (s.onChB f).supply = s.supply := rfl
@[simp] theorem State.onChB_level (f : Channel → Channel) (s : State) : (s.onChB f).level = s.level := rfl
@[simp] theorem State.onChB_square (f : Channel → Channel) (s : State) : (s.onChB f).square = s.square := rfl
@[simp] theorem State.onChB_wind (f : Channel → Channel) (s : State) : (s.onChB f).wind = s.wind := rfl
@[simp] theorem State.onChB_stop (f : Channel → Channel) (s : State) : (s.onChB f).stop = s.stop := rfl
@[simp] theorem State.onChB_road (f : Channel → Channel) (s : State) : (s.onChB f).road = s.road := rfl
@[simp] theorem State.onChB_watch (f : Channel → Channel) (s : State) : (s.onChB f).watch = s.watch := rfl
@[simp] theorem State.onChB_free (f : Channel → Channel) (s : State) : (s.onChB f).free = s.free := rfl
@[simp] theorem State.onChB_pending (f : Channel → Channel) (s : State) : (s.onChB f).pending = s.pending := rfl

/-! ### `setStep` -/

@[simp] theorem State.setStep_node (d : Option DutyStep) (s : State) : (s.setStep d).node = s.node := rfl
@[simp] theorem State.setStep_store (d : Option DutyStep) (s : State) : (s.setStep d).store = s.store := rfl
@[simp] theorem State.setStep_cal (d : Option DutyStep) (s : State) : (s.setStep d).cal = s.cal := rfl
@[simp] theorem State.setStep_inp (d : Option DutyStep) (s : State) : (s.setStep d).inp = s.inp := rfl
@[simp] theorem State.setStep_bus (d : Option DutyStep) (s : State) : (s.setStep d).bus = s.bus := rfl
@[simp] theorem State.setStep_peers (d : Option DutyStep) (s : State) : (s.setStep d).peers = s.peers := rfl
@[simp] theorem State.setStep_orders (d : Option DutyStep) (s : State) : (s.setStep d).orders = s.orders := rfl
@[simp] theorem State.setStep_chA (d : Option DutyStep) (s : State) : (s.setStep d).chA = s.chA := rfl
@[simp] theorem State.setStep_chB (d : Option DutyStep) (s : State) : (s.setStep d).chB = s.chB := rfl
@[simp] theorem State.setStep_step (d : Option DutyStep) (s : State) : (s.setStep d).step = d := rfl
@[simp] theorem State.setStep_supply (d : Option DutyStep) (s : State) : (s.setStep d).supply = s.supply := rfl
@[simp] theorem State.setStep_level (d : Option DutyStep) (s : State) : (s.setStep d).level = s.level := rfl
@[simp] theorem State.setStep_square (d : Option DutyStep) (s : State) : (s.setStep d).square = s.square := rfl
@[simp] theorem State.setStep_wind (d : Option DutyStep) (s : State) : (s.setStep d).wind = s.wind := rfl
@[simp] theorem State.setStep_stop (d : Option DutyStep) (s : State) : (s.setStep d).stop = s.stop := rfl
@[simp] theorem State.setStep_road (d : Option DutyStep) (s : State) : (s.setStep d).road = s.road := rfl
@[simp] theorem State.setStep_watch (d : Option DutyStep) (s : State) : (s.setStep d).watch = s.watch := rfl
@[simp] theorem State.setStep_free (d : Option DutyStep) (s : State) : (s.setStep d).free = s.free := rfl
@[simp] theorem State.setStep_pending (d : Option DutyStep) (s : State) : (s.setStep d).pending = s.pending := rfl

/-! ### `onSupply` -/

@[simp] theorem State.onSupply_node (f : Supply → Supply) (s : State) : (s.onSupply f).node = s.node := rfl
@[simp] theorem State.onSupply_store (f : Supply → Supply) (s : State) : (s.onSupply f).store = s.store := rfl
@[simp] theorem State.onSupply_cal (f : Supply → Supply) (s : State) : (s.onSupply f).cal = s.cal := rfl
@[simp] theorem State.onSupply_inp (f : Supply → Supply) (s : State) : (s.onSupply f).inp = s.inp := rfl
@[simp] theorem State.onSupply_bus (f : Supply → Supply) (s : State) : (s.onSupply f).bus = s.bus := rfl
@[simp] theorem State.onSupply_peers (f : Supply → Supply) (s : State) : (s.onSupply f).peers = s.peers := rfl
@[simp] theorem State.onSupply_orders (f : Supply → Supply) (s : State) : (s.onSupply f).orders = s.orders := rfl
@[simp] theorem State.onSupply_chA (f : Supply → Supply) (s : State) : (s.onSupply f).chA = s.chA := rfl
@[simp] theorem State.onSupply_chB (f : Supply → Supply) (s : State) : (s.onSupply f).chB = s.chB := rfl
@[simp] theorem State.onSupply_step (f : Supply → Supply) (s : State) : (s.onSupply f).step = s.step := rfl
@[simp] theorem State.onSupply_supply (f : Supply → Supply) (s : State) : (s.onSupply f).supply = f s.supply := rfl
@[simp] theorem State.onSupply_level (f : Supply → Supply) (s : State) : (s.onSupply f).level = s.level := rfl
@[simp] theorem State.onSupply_square (f : Supply → Supply) (s : State) : (s.onSupply f).square = s.square := rfl
@[simp] theorem State.onSupply_wind (f : Supply → Supply) (s : State) : (s.onSupply f).wind = s.wind := rfl
@[simp] theorem State.onSupply_stop (f : Supply → Supply) (s : State) : (s.onSupply f).stop = s.stop := rfl
@[simp] theorem State.onSupply_road (f : Supply → Supply) (s : State) : (s.onSupply f).road = s.road := rfl
@[simp] theorem State.onSupply_watch (f : Supply → Supply) (s : State) : (s.onSupply f).watch = s.watch := rfl
@[simp] theorem State.onSupply_free (f : Supply → Supply) (s : State) : (s.onSupply f).free = s.free := rfl
@[simp] theorem State.onSupply_pending (f : Supply → Supply) (s : State) : (s.onSupply f).pending = s.pending := rfl

/-! ### `onLevel` -/

@[simp] theorem State.onLevel_node (f : Level → Level) (s : State) : (s.onLevel f).node = s.node := rfl
@[simp] theorem State.onLevel_store (f : Level → Level) (s : State) : (s.onLevel f).store = s.store := rfl
@[simp] theorem State.onLevel_cal (f : Level → Level) (s : State) : (s.onLevel f).cal = s.cal := rfl
@[simp] theorem State.onLevel_inp (f : Level → Level) (s : State) : (s.onLevel f).inp = s.inp := rfl
@[simp] theorem State.onLevel_bus (f : Level → Level) (s : State) : (s.onLevel f).bus = s.bus := rfl
@[simp] theorem State.onLevel_peers (f : Level → Level) (s : State) : (s.onLevel f).peers = s.peers := rfl
@[simp] theorem State.onLevel_orders (f : Level → Level) (s : State) : (s.onLevel f).orders = s.orders := rfl
@[simp] theorem State.onLevel_chA (f : Level → Level) (s : State) : (s.onLevel f).chA = s.chA := rfl
@[simp] theorem State.onLevel_chB (f : Level → Level) (s : State) : (s.onLevel f).chB = s.chB := rfl
@[simp] theorem State.onLevel_step (f : Level → Level) (s : State) : (s.onLevel f).step = s.step := rfl
@[simp] theorem State.onLevel_supply (f : Level → Level) (s : State) : (s.onLevel f).supply = s.supply := rfl
@[simp] theorem State.onLevel_level (f : Level → Level) (s : State) : (s.onLevel f).level = f s.level := rfl
@[simp] theorem State.onLevel_square (f : Level → Level) (s : State) : (s.onLevel f).square = s.square := rfl
@[simp] theorem State.onLevel_wind (f : Level → Level) (s : State) : (s.onLevel f).wind = s.wind := rfl
@[simp] theorem State.onLevel_stop (f : Level → Level) (s : State) : (s.onLevel f).stop = s.stop := rfl
@[simp] theorem State.onLevel_road (f : Level → Level) (s : State) : (s.onLevel f).road = s.road := rfl
@[simp] theorem State.onLevel_watch (f : Level → Level) (s : State) : (s.onLevel f).watch = s.watch := rfl
@[simp] theorem State.onLevel_free (f : Level → Level) (s : State) : (s.onLevel f).free = s.free := rfl
@[simp] theorem State.onLevel_pending (f : Level → Level) (s : State) : (s.onLevel f).pending = s.pending := rfl

/-! ### `onSquare` -/

@[simp] theorem State.onSquare_node (f : Square → Square) (s : State) : (s.onSquare f).node = s.node := rfl
@[simp] theorem State.onSquare_store (f : Square → Square) (s : State) : (s.onSquare f).store = s.store := rfl
@[simp] theorem State.onSquare_cal (f : Square → Square) (s : State) : (s.onSquare f).cal = s.cal := rfl
@[simp] theorem State.onSquare_inp (f : Square → Square) (s : State) : (s.onSquare f).inp = s.inp := rfl
@[simp] theorem State.onSquare_bus (f : Square → Square) (s : State) : (s.onSquare f).bus = s.bus := rfl
@[simp] theorem State.onSquare_peers (f : Square → Square) (s : State) : (s.onSquare f).peers = s.peers := rfl
@[simp] theorem State.onSquare_orders (f : Square → Square) (s : State) : (s.onSquare f).orders = s.orders := rfl
@[simp] theorem State.onSquare_chA (f : Square → Square) (s : State) : (s.onSquare f).chA = s.chA := rfl
@[simp] theorem State.onSquare_chB (f : Square → Square) (s : State) : (s.onSquare f).chB = s.chB := rfl
@[simp] theorem State.onSquare_step (f : Square → Square) (s : State) : (s.onSquare f).step = s.step := rfl
@[simp] theorem State.onSquare_supply (f : Square → Square) (s : State) : (s.onSquare f).supply = s.supply := rfl
@[simp] theorem State.onSquare_level (f : Square → Square) (s : State) : (s.onSquare f).level = s.level := rfl
@[simp] theorem State.onSquare_square (f : Square → Square) (s : State) : (s.onSquare f).square = f s.square := rfl
@[simp] theorem State.onSquare_wind (f : Square → Square) (s : State) : (s.onSquare f).wind = s.wind := rfl
@[simp] theorem State.onSquare_stop (f : Square → Square) (s : State) : (s.onSquare f).stop = s.stop := rfl
@[simp] theorem State.onSquare_road (f : Square → Square) (s : State) : (s.onSquare f).road = s.road := rfl
@[simp] theorem State.onSquare_watch (f : Square → Square) (s : State) : (s.onSquare f).watch = s.watch := rfl
@[simp] theorem State.onSquare_free (f : Square → Square) (s : State) : (s.onSquare f).free = s.free := rfl
@[simp] theorem State.onSquare_pending (f : Square → Square) (s : State) : (s.onSquare f).pending = s.pending := rfl

/-! ### `onWind` -/

@[simp] theorem State.onWind_node (f : Wind → Wind) (s : State) : (s.onWind f).node = s.node := rfl
@[simp] theorem State.onWind_store (f : Wind → Wind) (s : State) : (s.onWind f).store = s.store := rfl
@[simp] theorem State.onWind_cal (f : Wind → Wind) (s : State) : (s.onWind f).cal = s.cal := rfl
@[simp] theorem State.onWind_inp (f : Wind → Wind) (s : State) : (s.onWind f).inp = s.inp := rfl
@[simp] theorem State.onWind_bus (f : Wind → Wind) (s : State) : (s.onWind f).bus = s.bus := rfl
@[simp] theorem State.onWind_peers (f : Wind → Wind) (s : State) : (s.onWind f).peers = s.peers := rfl
@[simp] theorem State.onWind_orders (f : Wind → Wind) (s : State) : (s.onWind f).orders = s.orders := rfl
@[simp] theorem State.onWind_chA (f : Wind → Wind) (s : State) : (s.onWind f).chA = s.chA := rfl
@[simp] theorem State.onWind_chB (f : Wind → Wind) (s : State) : (s.onWind f).chB = s.chB := rfl
@[simp] theorem State.onWind_step (f : Wind → Wind) (s : State) : (s.onWind f).step = s.step := rfl
@[simp] theorem State.onWind_supply (f : Wind → Wind) (s : State) : (s.onWind f).supply = s.supply := rfl
@[simp] theorem State.onWind_level (f : Wind → Wind) (s : State) : (s.onWind f).level = s.level := rfl
@[simp] theorem State.onWind_square (f : Wind → Wind) (s : State) : (s.onWind f).square = s.square := rfl
@[simp] theorem State.onWind_wind (f : Wind → Wind) (s : State) : (s.onWind f).wind = f s.wind := rfl
@[simp] theorem State.onWind_stop (f : Wind → Wind) (s : State) : (s.onWind f).stop = s.stop := rfl
@[simp] theorem State.onWind_road (f : Wind → Wind) (s : State) : (s.onWind f).road = s.road := rfl
@[simp] theorem State.onWind_watch (f : Wind → Wind) (s : State) : (s.onWind f).watch = s.watch := rfl
@[simp] theorem State.onWind_free (f : Wind → Wind) (s : State) : (s.onWind f).free = s.free := rfl
@[simp] theorem State.onWind_pending (f : Wind → Wind) (s : State) : (s.onWind f).pending = s.pending := rfl

/-! ### `onStop` -/

@[simp] theorem State.onStop_node (f : StopUnit → StopUnit) (s : State) : (s.onStop f).node = s.node := rfl
@[simp] theorem State.onStop_store (f : StopUnit → StopUnit) (s : State) : (s.onStop f).store = s.store := rfl
@[simp] theorem State.onStop_cal (f : StopUnit → StopUnit) (s : State) : (s.onStop f).cal = s.cal := rfl
@[simp] theorem State.onStop_inp (f : StopUnit → StopUnit) (s : State) : (s.onStop f).inp = s.inp := rfl
@[simp] theorem State.onStop_bus (f : StopUnit → StopUnit) (s : State) : (s.onStop f).bus = s.bus := rfl
@[simp] theorem State.onStop_peers (f : StopUnit → StopUnit) (s : State) : (s.onStop f).peers = s.peers := rfl
@[simp] theorem State.onStop_orders (f : StopUnit → StopUnit) (s : State) : (s.onStop f).orders = s.orders := rfl
@[simp] theorem State.onStop_chA (f : StopUnit → StopUnit) (s : State) : (s.onStop f).chA = s.chA := rfl
@[simp] theorem State.onStop_chB (f : StopUnit → StopUnit) (s : State) : (s.onStop f).chB = s.chB := rfl
@[simp] theorem State.onStop_step (f : StopUnit → StopUnit) (s : State) : (s.onStop f).step = s.step := rfl
@[simp] theorem State.onStop_supply (f : StopUnit → StopUnit) (s : State) : (s.onStop f).supply = s.supply := rfl
@[simp] theorem State.onStop_level (f : StopUnit → StopUnit) (s : State) : (s.onStop f).level = s.level := rfl
@[simp] theorem State.onStop_square (f : StopUnit → StopUnit) (s : State) : (s.onStop f).square = s.square := rfl
@[simp] theorem State.onStop_wind (f : StopUnit → StopUnit) (s : State) : (s.onStop f).wind = s.wind := rfl
@[simp] theorem State.onStop_stop (f : StopUnit → StopUnit) (s : State) : (s.onStop f).stop = f s.stop := rfl
@[simp] theorem State.onStop_road (f : StopUnit → StopUnit) (s : State) : (s.onStop f).road = s.road := rfl
@[simp] theorem State.onStop_watch (f : StopUnit → StopUnit) (s : State) : (s.onStop f).watch = s.watch := rfl
@[simp] theorem State.onStop_free (f : StopUnit → StopUnit) (s : State) : (s.onStop f).free = s.free := rfl
@[simp] theorem State.onStop_pending (f : StopUnit → StopUnit) (s : State) : (s.onStop f).pending = s.pending := rfl

/-! ### `onRoad` -/

@[simp] theorem State.onRoad_node (f : Road → Road) (s : State) : (s.onRoad f).node = s.node := rfl
@[simp] theorem State.onRoad_store (f : Road → Road) (s : State) : (s.onRoad f).store = s.store := rfl
@[simp] theorem State.onRoad_cal (f : Road → Road) (s : State) : (s.onRoad f).cal = s.cal := rfl
@[simp] theorem State.onRoad_inp (f : Road → Road) (s : State) : (s.onRoad f).inp = s.inp := rfl
@[simp] theorem State.onRoad_bus (f : Road → Road) (s : State) : (s.onRoad f).bus = s.bus := rfl
@[simp] theorem State.onRoad_peers (f : Road → Road) (s : State) : (s.onRoad f).peers = s.peers := rfl
@[simp] theorem State.onRoad_orders (f : Road → Road) (s : State) : (s.onRoad f).orders = s.orders := rfl
@[simp] theorem State.onRoad_chA (f : Road → Road) (s : State) : (s.onRoad f).chA = s.chA := rfl
@[simp] theorem State.onRoad_chB (f : Road → Road) (s : State) : (s.onRoad f).chB = s.chB := rfl
@[simp] theorem State.onRoad_step (f : Road → Road) (s : State) : (s.onRoad f).step = s.step := rfl
@[simp] theorem State.onRoad_supply (f : Road → Road) (s : State) : (s.onRoad f).supply = s.supply := rfl
@[simp] theorem State.onRoad_level (f : Road → Road) (s : State) : (s.onRoad f).level = s.level := rfl
@[simp] theorem State.onRoad_square (f : Road → Road) (s : State) : (s.onRoad f).square = s.square := rfl
@[simp] theorem State.onRoad_wind (f : Road → Road) (s : State) : (s.onRoad f).wind = s.wind := rfl
@[simp] theorem State.onRoad_stop (f : Road → Road) (s : State) : (s.onRoad f).stop = s.stop := rfl
@[simp] theorem State.onRoad_road (f : Road → Road) (s : State) : (s.onRoad f).road = f s.road := rfl
@[simp] theorem State.onRoad_watch (f : Road → Road) (s : State) : (s.onRoad f).watch = s.watch := rfl
@[simp] theorem State.onRoad_free (f : Road → Road) (s : State) : (s.onRoad f).free = s.free := rfl
@[simp] theorem State.onRoad_pending (f : Road → Road) (s : State) : (s.onRoad f).pending = s.pending := rfl

/-! ### `onWatch` -/

@[simp] theorem State.onWatch_node (f : Watch → Watch) (s : State) : (s.onWatch f).node = s.node := rfl
@[simp] theorem State.onWatch_store (f : Watch → Watch) (s : State) : (s.onWatch f).store = s.store := rfl
@[simp] theorem State.onWatch_cal (f : Watch → Watch) (s : State) : (s.onWatch f).cal = s.cal := rfl
@[simp] theorem State.onWatch_inp (f : Watch → Watch) (s : State) : (s.onWatch f).inp = s.inp := rfl
@[simp] theorem State.onWatch_bus (f : Watch → Watch) (s : State) : (s.onWatch f).bus = s.bus := rfl
@[simp] theorem State.onWatch_peers (f : Watch → Watch) (s : State) : (s.onWatch f).peers = s.peers := rfl
@[simp] theorem State.onWatch_orders (f : Watch → Watch) (s : State) : (s.onWatch f).orders = s.orders := rfl
@[simp] theorem State.onWatch_chA (f : Watch → Watch) (s : State) : (s.onWatch f).chA = s.chA := rfl
@[simp] theorem State.onWatch_chB (f : Watch → Watch) (s : State) : (s.onWatch f).chB = s.chB := rfl
@[simp] theorem State.onWatch_step (f : Watch → Watch) (s : State) : (s.onWatch f).step = s.step := rfl
@[simp] theorem State.onWatch_supply (f : Watch → Watch) (s : State) : (s.onWatch f).supply = s.supply := rfl
@[simp] theorem State.onWatch_level (f : Watch → Watch) (s : State) : (s.onWatch f).level = s.level := rfl
@[simp] theorem State.onWatch_square (f : Watch → Watch) (s : State) : (s.onWatch f).square = s.square := rfl
@[simp] theorem State.onWatch_wind (f : Watch → Watch) (s : State) : (s.onWatch f).wind = s.wind := rfl
@[simp] theorem State.onWatch_stop (f : Watch → Watch) (s : State) : (s.onWatch f).stop = s.stop := rfl
@[simp] theorem State.onWatch_road (f : Watch → Watch) (s : State) : (s.onWatch f).road = s.road := rfl
@[simp] theorem State.onWatch_watch (f : Watch → Watch) (s : State) : (s.onWatch f).watch = f s.watch := rfl
@[simp] theorem State.onWatch_free (f : Watch → Watch) (s : State) : (s.onWatch f).free = s.free := rfl
@[simp] theorem State.onWatch_pending (f : Watch → Watch) (s : State) : (s.onWatch f).pending = s.pending := rfl

/-! ### `setFree` -/

@[simp] theorem State.setFree_node (n : Nat) (s : State) : (s.setFree n).node = s.node := rfl
@[simp] theorem State.setFree_store (n : Nat) (s : State) : (s.setFree n).store = s.store := rfl
@[simp] theorem State.setFree_cal (n : Nat) (s : State) : (s.setFree n).cal = s.cal := rfl
@[simp] theorem State.setFree_inp (n : Nat) (s : State) : (s.setFree n).inp = s.inp := rfl
@[simp] theorem State.setFree_bus (n : Nat) (s : State) : (s.setFree n).bus = s.bus := rfl
@[simp] theorem State.setFree_peers (n : Nat) (s : State) : (s.setFree n).peers = s.peers := rfl
@[simp] theorem State.setFree_orders (n : Nat) (s : State) : (s.setFree n).orders = s.orders := rfl
@[simp] theorem State.setFree_chA (n : Nat) (s : State) : (s.setFree n).chA = s.chA := rfl
@[simp] theorem State.setFree_chB (n : Nat) (s : State) : (s.setFree n).chB = s.chB := rfl
@[simp] theorem State.setFree_step (n : Nat) (s : State) : (s.setFree n).step = s.step := rfl
@[simp] theorem State.setFree_supply (n : Nat) (s : State) : (s.setFree n).supply = s.supply := rfl
@[simp] theorem State.setFree_level (n : Nat) (s : State) : (s.setFree n).level = s.level := rfl
@[simp] theorem State.setFree_square (n : Nat) (s : State) : (s.setFree n).square = s.square := rfl
@[simp] theorem State.setFree_wind (n : Nat) (s : State) : (s.setFree n).wind = s.wind := rfl
@[simp] theorem State.setFree_stop (n : Nat) (s : State) : (s.setFree n).stop = s.stop := rfl
@[simp] theorem State.setFree_road (n : Nat) (s : State) : (s.setFree n).road = s.road := rfl
@[simp] theorem State.setFree_watch (n : Nat) (s : State) : (s.setFree n).watch = s.watch := rfl
@[simp] theorem State.setFree_free (n : Nat) (s : State) : (s.setFree n).free = n := rfl
@[simp] theorem State.setFree_pending (n : Nat) (s : State) : (s.setFree n).pending = s.pending := rfl

/-! ### `setPending` -/

@[simp] theorem State.setPending_node (q : List Instr) (s : State) : (s.setPending q).node = s.node := rfl
@[simp] theorem State.setPending_store (q : List Instr) (s : State) : (s.setPending q).store = s.store := rfl
@[simp] theorem State.setPending_cal (q : List Instr) (s : State) : (s.setPending q).cal = s.cal := rfl
@[simp] theorem State.setPending_inp (q : List Instr) (s : State) : (s.setPending q).inp = s.inp := rfl
@[simp] theorem State.setPending_bus (q : List Instr) (s : State) : (s.setPending q).bus = s.bus := rfl
@[simp] theorem State.setPending_peers (q : List Instr) (s : State) : (s.setPending q).peers = s.peers := rfl
@[simp] theorem State.setPending_orders (q : List Instr) (s : State) : (s.setPending q).orders = s.orders := rfl
@[simp] theorem State.setPending_chA (q : List Instr) (s : State) : (s.setPending q).chA = s.chA := rfl
@[simp] theorem State.setPending_chB (q : List Instr) (s : State) : (s.setPending q).chB = s.chB := rfl
@[simp] theorem State.setPending_step (q : List Instr) (s : State) : (s.setPending q).step = s.step := rfl
@[simp] theorem State.setPending_supply (q : List Instr) (s : State) : (s.setPending q).supply = s.supply := rfl
@[simp] theorem State.setPending_level (q : List Instr) (s : State) : (s.setPending q).level = s.level := rfl
@[simp] theorem State.setPending_square (q : List Instr) (s : State) : (s.setPending q).square = s.square := rfl
@[simp] theorem State.setPending_wind (q : List Instr) (s : State) : (s.setPending q).wind = s.wind := rfl
@[simp] theorem State.setPending_stop (q : List Instr) (s : State) : (s.setPending q).stop = s.stop := rfl
@[simp] theorem State.setPending_road (q : List Instr) (s : State) : (s.setPending q).road = s.road := rfl
@[simp] theorem State.setPending_watch (q : List Instr) (s : State) : (s.setPending q).watch = s.watch := rfl
@[simp] theorem State.setPending_free (q : List Instr) (s : State) : (s.setPending q).free = s.free := rfl
@[simp] theorem State.setPending_pending (q : List Instr) (s : State) : (s.setPending q).pending = q := rfl

/-! ### A channel by name -/

@[simp] theorem State.chan_onNode (ch : ChanId) (f : Node → Node) (s : State) : (s.onNode f).chan ch = s.chan ch := by cases ch <;> rfl
@[simp] theorem State.onChan_node (ch : ChanId) (f : Channel → Channel) (s : State) : (s.onChan ch f).node = s.node := by
  cases ch <;> rfl
@[simp] theorem State.chan_onStore (ch : ChanId) (f : Store → Store) (s : State) : (s.onStore f).chan ch = s.chan ch := by cases ch <;> rfl
@[simp] theorem State.onChan_store (ch : ChanId) (f : Channel → Channel) (s : State) : (s.onChan ch f).store = s.store := by
  cases ch <;> rfl
@[simp] theorem State.chan_setCal (ch : ChanId) (c : Cal) (s : State) : (s.setCal c).chan ch = s.chan ch := by cases ch <;> rfl
@[simp] theorem State.onChan_cal (ch : ChanId) (f : Channel → Channel) (s : State) : (s.onChan ch f).cal = s.cal := by
  cases ch <;> rfl
@[simp] theorem State.chan_onInp (ch : ChanId) (f : Inputs → Inputs) (s : State) : (s.onInp f).chan ch = s.chan ch := by cases ch <;> rfl
@[simp] theorem State.onChan_inp (ch : ChanId) (f : Channel → Channel) (s : State) : (s.onChan ch f).inp = s.inp := by
  cases ch <;> rfl
@[simp] theorem State.chan_onBus (ch : ChanId) (f : Bus → Bus) (s : State) : (s.onBus f).chan ch = s.chan ch := by cases ch <;> rfl
@[simp] theorem State.onChan_bus (ch : ChanId) (f : Channel → Channel) (s : State) : (s.onChan ch f).bus = s.bus := by
  cases ch <;> rfl
@[simp] theorem State.chan_onPeers (ch : ChanId) (f : List Peer → List Peer) (s : State) : (s.onPeers f).chan ch = s.chan ch := by cases ch <;> rfl
@[simp] theorem State.onChan_peers (ch : ChanId) (f : Channel → Channel) (s : State) : (s.onChan ch f).peers = s.peers := by
  cases ch <;> rfl
@[simp] theorem State.chan_onOrders (ch : ChanId) (f : Orders → Orders) (s : State) : (s.onOrders f).chan ch = s.chan ch := by cases ch <;> rfl
@[simp] theorem State.onChan_orders (ch : ChanId) (f : Channel → Channel) (s : State) : (s.onChan ch f).orders = s.orders := by
  cases ch <;> rfl
@[simp] theorem State.chan_setStep (ch : ChanId) (d : Option DutyStep) (s : State) : (s.setStep d).chan ch = s.chan ch := by cases ch <;> rfl
@[simp] theorem State.onChan_step (ch : ChanId) (f : Channel → Channel) (s : State) : (s.onChan ch f).step = s.step := by
  cases ch <;> rfl
@[simp] theorem State.chan_onSupply (ch : ChanId) (f : Supply → Supply) (s : State) : (s.onSupply f).chan ch = s.chan ch := by cases ch <;> rfl
@[simp] theorem State.onChan_supply (ch : ChanId) (f : Channel → Channel) (s : State) : (s.onChan ch f).supply = s.supply := by
  cases ch <;> rfl
@[simp] theorem State.chan_onLevel (ch : ChanId) (f : Level → Level) (s : State) : (s.onLevel f).chan ch = s.chan ch := by cases ch <;> rfl
@[simp] theorem State.onChan_level (ch : ChanId) (f : Channel → Channel) (s : State) : (s.onChan ch f).level = s.level := by
  cases ch <;> rfl
@[simp] theorem State.chan_onSquare (ch : ChanId) (f : Square → Square) (s : State) : (s.onSquare f).chan ch = s.chan ch := by cases ch <;> rfl
@[simp] theorem State.onChan_square (ch : ChanId) (f : Channel → Channel) (s : State) : (s.onChan ch f).square = s.square := by
  cases ch <;> rfl
@[simp] theorem State.chan_onWind (ch : ChanId) (f : Wind → Wind) (s : State) : (s.onWind f).chan ch = s.chan ch := by cases ch <;> rfl
@[simp] theorem State.onChan_wind (ch : ChanId) (f : Channel → Channel) (s : State) : (s.onChan ch f).wind = s.wind := by
  cases ch <;> rfl
@[simp] theorem State.chan_onStop (ch : ChanId) (f : StopUnit → StopUnit) (s : State) : (s.onStop f).chan ch = s.chan ch := by cases ch <;> rfl
@[simp] theorem State.onChan_stop (ch : ChanId) (f : Channel → Channel) (s : State) : (s.onChan ch f).stop = s.stop := by
  cases ch <;> rfl
@[simp] theorem State.chan_onRoad (ch : ChanId) (f : Road → Road) (s : State) : (s.onRoad f).chan ch = s.chan ch := by cases ch <;> rfl
@[simp] theorem State.onChan_road (ch : ChanId) (f : Channel → Channel) (s : State) : (s.onChan ch f).road = s.road := by
  cases ch <;> rfl
@[simp] theorem State.chan_onWatch (ch : ChanId) (f : Watch → Watch) (s : State) : (s.onWatch f).chan ch = s.chan ch := by cases ch <;> rfl
@[simp] theorem State.onChan_watch (ch : ChanId) (f : Channel → Channel) (s : State) : (s.onChan ch f).watch = s.watch := by
  cases ch <;> rfl
@[simp] theorem State.chan_setFree (ch : ChanId) (n : Nat) (s : State) : (s.setFree n).chan ch = s.chan ch := by cases ch <;> rfl
@[simp] theorem State.onChan_free (ch : ChanId) (f : Channel → Channel) (s : State) : (s.onChan ch f).free = s.free := by
  cases ch <;> rfl
@[simp] theorem State.chan_setPending (ch : ChanId) (q : List Instr) (s : State) : (s.setPending q).chan ch = s.chan ch := by cases ch <;> rfl
@[simp] theorem State.onChan_pending (ch : ChanId) (f : Channel → Channel) (s : State) : (s.onChan ch f).pending = s.pending := by
  cases ch <;> rfl
@[simp] theorem State.chan_a (s : State) : s.chan .a = s.chA := rfl
@[simp] theorem State.chan_b (s : State) : s.chan .b = s.chB := rfl
@[simp] theorem State.onChan_a (f : Channel → Channel) (s : State) : s.onChan .a f = s.onChA f := rfl
@[simp] theorem State.onChan_b (f : Channel → Channel) (s : State) : s.onChan .b f = s.onChB f := rfl
@[simp] theorem State.chan_onChan (ch : ChanId) (f : Channel → Channel) (s : State) : (s.onChan ch f).chan ch = f (s.chan ch) := by
  cases ch <;> rfl
@[simp] theorem State.chan_onChan_other (ch : ChanId) (f : Channel → Channel) (s : State) :
    (s.onChan ch f).chan ch.other = s.chan ch.other := by
  cases ch <;> rfl
/-- Updating a channel leaves any other channel as it was. -/
theorem State.chan_onChan_ne {ch ch2 : ChanId} (h : ch2 ≠ ch) (f : Channel → Channel) (s : State) :
    (s.onChan ch f).chan ch2 = s.chan ch2 := by
  cases ch <;> cases ch2 <;> first | rfl | exact absurd rfl h

end Sys2Proof.Machine
end

