-- ==== Sys2Proof/Laws/OpsFrames.lean ====
section
/-! SUPPORT. What the shared operations of Machine/Ops.lean leave as it was: one lemma for each, whose parts rewrite. -/

namespace Sys2Proof.Machine

/-- A node has channel A, and a slide channel B besides. -/
theorem State.chanIds_cases (s : State) : s.chanIds = [.a, .b] ∨ s.chanIds = [.a] := by
  unfold State.chanIds; split <;> simp

/-! ### Ops -/

@[simp] theorem pushNotice_frame (n : Notice) (s : State) :
    (pushNotice n s).node = s.node ∧ (pushNotice n s).store = s.store ∧ (pushNotice n s).cal = s.cal
      ∧ (pushNotice n s).inp = s.inp ∧ (pushNotice n s).peers = s.peers ∧ (pushNotice n s).orders = s.orders
      ∧ (pushNotice n s).chA = s.chA ∧ (pushNotice n s).chB = s.chB ∧ (pushNotice n s).step = s.step
      ∧ (pushNotice n s).supply = s.supply ∧ (pushNotice n s).level = s.level ∧ (pushNotice n s).square = s.square
      ∧ (pushNotice n s).wind = s.wind ∧ (pushNotice n s).stop = s.stop ∧ (pushNotice n s).road = s.road
      ∧ (pushNotice n s).watch = s.watch ∧ (pushNotice n s).free = s.free ∧ (pushNotice n s).pending = s.pending := by
  simp [pushNotice]

@[simp] theorem notice_frame (code : NoticeCode) (chan : NChan) (requester : Nat) (order : Option Order) (detail :
    Half) (s : State) :
    (notice code chan requester order detail s).node = s.node
      ∧ (notice code chan requester order detail s).store = s.store
      ∧ (notice code chan requester order detail s).cal = s.cal
      ∧ (notice code chan requester order detail s).inp = s.inp
      ∧ (notice code chan requester order detail s).peers = s.peers
      ∧ (notice code chan requester order detail s).orders = s.orders
      ∧ (notice code chan requester order detail s).chA = s.chA
      ∧ (notice code chan requester order detail s).chB = s.chB
      ∧ (notice code chan requester order detail s).step = s.step
      ∧ (notice code chan requester order detail s).supply = s.supply
      ∧ (notice code chan requester order detail s).level = s.level
      ∧ (notice code chan requester order detail s).square = s.square
      ∧ (notice code chan requester order detail s).wind = s.wind
      ∧ (notice code chan requester order detail s).stop = s.stop
      ∧ (notice code chan requester order detail s).road = s.road
      ∧ (notice code chan requester order detail s).watch = s.watch
      ∧ (notice code chan requester order detail s).free = s.free
      ∧ (notice code chan requester order detail s).pending = s.pending := by
  simp [notice]

@[simp] theorem drawFree_frame (s : State) :
    (drawFree s).node = s.node ∧ (drawFree s).store = s.store ∧ (drawFree s).cal = s.cal ∧ (drawFree s).inp = s.inp
      ∧ (drawFree s).bus = s.bus ∧ (drawFree s).peers = s.peers ∧ (drawFree s).orders = s.orders
      ∧ (drawFree s).chA = s.chA ∧ (drawFree s).chB = s.chB ∧ (drawFree s).step = s.step
      ∧ (drawFree s).supply = s.supply ∧ (drawFree s).level = s.level ∧ (drawFree s).square = s.square
      ∧ (drawFree s).wind = s.wind ∧ (drawFree s).stop = s.stop ∧ (drawFree s).road = s.road
      ∧ (drawFree s).watch = s.watch ∧ (drawFree s).pending = s.pending := by
  simp [drawFree]

@[simp] theorem dropFaults_frame (p : ActiveFault → Bool) (s : State) :
    (dropFaults p s).node = s.node ∧ (dropFaults p s).store = s.store ∧ (dropFaults p s).cal = s.cal
      ∧ (dropFaults p s).inp = s.inp ∧ (dropFaults p s).bus = s.bus ∧ (dropFaults p s).peers = s.peers
      ∧ (dropFaults p s).orders = s.orders ∧ (dropFaults p s).chA = s.chA ∧ (dropFaults p s).chB = s.chB
      ∧ (dropFaults p s).step = s.step ∧ (dropFaults p s).supply = s.supply ∧ (dropFaults p s).level = s.level
      ∧ (dropFaults p s).square = s.square ∧ (dropFaults p s).wind = s.wind ∧ (dropFaults p s).road = s.road
      ∧ (dropFaults p s).watch = s.watch ∧ (dropFaults p s).free = s.free ∧ (dropFaults p s).pending = s.pending := by
  simp [dropFaults]

@[simp] theorem dropKind_frame (k : FaultKind) (s : State) :
    (dropKind k s).node = s.node ∧ (dropKind k s).store = s.store ∧ (dropKind k s).cal = s.cal
      ∧ (dropKind k s).inp = s.inp ∧ (dropKind k s).bus = s.bus ∧ (dropKind k s).peers = s.peers
      ∧ (dropKind k s).orders = s.orders ∧ (dropKind k s).chA = s.chA ∧ (dropKind k s).chB = s.chB
      ∧ (dropKind k s).step = s.step ∧ (dropKind k s).supply = s.supply ∧ (dropKind k s).level = s.level
      ∧ (dropKind k s).square = s.square ∧ (dropKind k s).wind = s.wind ∧ (dropKind k s).road = s.road
      ∧ (dropKind k s).watch = s.watch ∧ (dropKind k s).free = s.free ∧ (dropKind k s).pending = s.pending := by
  simp [dropKind]

@[simp] theorem dropSensor_frame (d : Half) (s : State) :
    (dropSensor d s).node = s.node ∧ (dropSensor d s).store = s.store ∧ (dropSensor d s).cal = s.cal
      ∧ (dropSensor d s).inp = s.inp ∧ (dropSensor d s).bus = s.bus ∧ (dropSensor d s).peers = s.peers
      ∧ (dropSensor d s).orders = s.orders ∧ (dropSensor d s).chA = s.chA ∧ (dropSensor d s).chB = s.chB
      ∧ (dropSensor d s).step = s.step ∧ (dropSensor d s).supply = s.supply ∧ (dropSensor d s).level = s.level
      ∧ (dropSensor d s).square = s.square ∧ (dropSensor d s).wind = s.wind ∧ (dropSensor d s).road = s.road
      ∧ (dropSensor d s).watch = s.watch ∧ (dropSensor d s).free = s.free ∧ (dropSensor d s).pending = s.pending := by
  simp [dropSensor]

@[simp] theorem stopReport_frame (f : ActiveFault) (s : State) :
    (stopReport f s).node = s.node ∧ (stopReport f s).store = s.store ∧ (stopReport f s).cal = s.cal
      ∧ (stopReport f s).inp = s.inp ∧ (stopReport f s).peers = s.peers ∧ (stopReport f s).orders = s.orders
      ∧ (stopReport f s).chA = s.chA ∧ (stopReport f s).chB = s.chB ∧ (stopReport f s).step = s.step
      ∧ (stopReport f s).supply = s.supply ∧ (stopReport f s).level = s.level ∧ (stopReport f s).square = s.square
      ∧ (stopReport f s).wind = s.wind ∧ (stopReport f s).road = s.road ∧ (stopReport f s).watch = s.watch
      ∧ (stopReport f s).free = s.free ∧ (stopReport f s).pending = s.pending := by
  unfold stopReport; split <;> simp

@[simp] theorem raiseFault_frame (k : FaultKind) (chan : NChan) (detail : Half) (s : State) :
    (raiseFault k chan detail s).node = s.node ∧ (raiseFault k chan detail s).store = s.store
      ∧ (raiseFault k chan detail s).cal = s.cal ∧ (raiseFault k chan detail s).inp = s.inp
      ∧ (raiseFault k chan detail s).peers = s.peers ∧ (raiseFault k chan detail s).orders = s.orders
      ∧ (raiseFault k chan detail s).chA = s.chA ∧ (raiseFault k chan detail s).chB = s.chB
      ∧ (raiseFault k chan detail s).step = s.step ∧ (raiseFault k chan detail s).supply = s.supply
      ∧ (raiseFault k chan detail s).level = s.level ∧ (raiseFault k chan detail s).square = s.square
      ∧ (raiseFault k chan detail s).wind = s.wind ∧ (raiseFault k chan detail s).road = s.road
      ∧ (raiseFault k chan detail s).watch = s.watch ∧ (raiseFault k chan detail s).free = s.free
      ∧ (raiseFault k chan detail s).pending = s.pending := by
  simp [raiseFault]

@[simp] theorem noticeFault_frame (k : FaultKind) (chan : NChan) (requester : Nat) (order : Option Order) (detail :
    Half) (s : State) :
    (noticeFault k chan requester order detail s).node = s.node
      ∧ (noticeFault k chan requester order detail s).store = s.store
      ∧ (noticeFault k chan requester order detail s).cal = s.cal
      ∧ (noticeFault k chan requester order detail s).inp = s.inp
      ∧ (noticeFault k chan requester order detail s).peers = s.peers
      ∧ (noticeFault k chan requester order detail s).orders = s.orders
      ∧ (noticeFault k chan requester order detail s).chA = s.chA
      ∧ (noticeFault k chan requester order detail s).chB = s.chB
      ∧ (noticeFault k chan requester order detail s).step = s.step
      ∧ (noticeFault k chan requester order detail s).supply = s.supply
      ∧ (noticeFault k chan requester order detail s).level = s.level
      ∧ (noticeFault k chan requester order detail s).square = s.square
      ∧ (noticeFault k chan requester order detail s).wind = s.wind
      ∧ (noticeFault k chan requester order detail s).road = s.road
      ∧ (noticeFault k chan requester order detail s).watch = s.watch
      ∧ (noticeFault k chan requester order detail s).free = s.free
      ∧ (noticeFault k chan requester order detail s).pending = s.pending := by
  simp [noticeFault]

@[simp] theorem releaseDrive_frame (s : State) :
    (releaseDrive s).node = s.node ∧ (releaseDrive s).store = s.store ∧ (releaseDrive s).cal = s.cal
      ∧ (releaseDrive s).inp = s.inp ∧ (releaseDrive s).bus = s.bus ∧ (releaseDrive s).peers = s.peers
      ∧ (releaseDrive s).orders = s.orders ∧ (releaseDrive s).chA = s.chA ∧ (releaseDrive s).chB = s.chB
      ∧ (releaseDrive s).step = s.step ∧ (releaseDrive s).supply = s.supply ∧ (releaseDrive s).level = s.level
      ∧ (releaseDrive s).square = s.square ∧ (releaseDrive s).wind = s.wind ∧ (releaseDrive s).road = s.road
      ∧ (releaseDrive s).watch = s.watch ∧ (releaseDrive s).free = s.free ∧ (releaseDrive s).pending = s.pending := by
  simp [releaseDrive]

@[simp] theorem raiseClaim_frame (baseClass : Nat) (s : State) :
    (raiseClaim baseClass s).node = s.node ∧ (raiseClaim baseClass s).store = s.store
      ∧ (raiseClaim baseClass s).cal = s.cal ∧ (raiseClaim baseClass s).inp = s.inp
      ∧ (raiseClaim baseClass s).peers = s.peers ∧ (raiseClaim baseClass s).orders = s.orders
      ∧ (raiseClaim baseClass s).chA = s.chA ∧ (raiseClaim baseClass s).chB = s.chB
      ∧ (raiseClaim baseClass s).step = s.step ∧ (raiseClaim baseClass s).level = s.level
      ∧ (raiseClaim baseClass s).square = s.square ∧ (raiseClaim baseClass s).wind = s.wind
      ∧ (raiseClaim baseClass s).stop = s.stop ∧ (raiseClaim baseClass s).road = s.road
      ∧ (raiseClaim baseClass s).watch = s.watch ∧ (raiseClaim baseClass s).free = s.free
      ∧ (raiseClaim baseClass s).pending = s.pending := by
  simp [raiseClaim]

@[simp] theorem clearClaim_frame (s : State) :
    (clearClaim s).node = s.node ∧ (clearClaim s).store = s.store ∧ (clearClaim s).cal = s.cal
      ∧ (clearClaim s).inp = s.inp ∧ (clearClaim s).bus = s.bus ∧ (clearClaim s).peers = s.peers
      ∧ (clearClaim s).orders = s.orders ∧ (clearClaim s).chA = s.chA ∧ (clearClaim s).chB = s.chB
      ∧ (clearClaim s).step = s.step ∧ (clearClaim s).level = s.level ∧ (clearClaim s).square = s.square
      ∧ (clearClaim s).wind = s.wind ∧ (clearClaim s).stop = s.stop ∧ (clearClaim s).road = s.road
      ∧ (clearClaim s).watch = s.watch ∧ (clearClaim s).free = s.free ∧ (clearClaim s).pending = s.pending := by
  simp [clearClaim]

@[simp] theorem releaseClaim_frame (s : State) :
    (releaseClaim s).node = s.node ∧ (releaseClaim s).store = s.store ∧ (releaseClaim s).cal = s.cal
      ∧ (releaseClaim s).inp = s.inp ∧ (releaseClaim s).peers = s.peers ∧ (releaseClaim s).orders = s.orders
      ∧ (releaseClaim s).chA = s.chA ∧ (releaseClaim s).chB = s.chB ∧ (releaseClaim s).step = s.step
      ∧ (releaseClaim s).level = s.level ∧ (releaseClaim s).square = s.square ∧ (releaseClaim s).wind = s.wind
      ∧ (releaseClaim s).stop = s.stop ∧ (releaseClaim s).road = s.road ∧ (releaseClaim s).watch = s.watch
      ∧ (releaseClaim s).free = s.free ∧ (releaseClaim s).pending = s.pending := by
  unfold releaseClaim; split <;> simp

@[simp] theorem dropClaim_frame (s : State) :
    (dropClaim s).node = s.node ∧ (dropClaim s).store = s.store ∧ (dropClaim s).cal = s.cal
      ∧ (dropClaim s).inp = s.inp ∧ (dropClaim s).peers = s.peers ∧ (dropClaim s).orders = s.orders
      ∧ (dropClaim s).chA = s.chA ∧ (dropClaim s).chB = s.chB ∧ (dropClaim s).step = s.step
      ∧ (dropClaim s).level = s.level ∧ (dropClaim s).square = s.square ∧ (dropClaim s).wind = s.wind
      ∧ (dropClaim s).stop = s.stop ∧ (dropClaim s).road = s.road ∧ (dropClaim s).watch = s.watch
      ∧ (dropClaim s).free = s.free ∧ (dropClaim s).pending = s.pending := by
  simp [dropClaim]

@[simp] theorem settleClaim_frame (s : State) :
    (settleClaim s).node = s.node ∧ (settleClaim s).store = s.store ∧ (settleClaim s).cal = s.cal
      ∧ (settleClaim s).inp = s.inp ∧ (settleClaim s).peers = s.peers ∧ (settleClaim s).orders = s.orders
      ∧ (settleClaim s).chA = s.chA ∧ (settleClaim s).chB = s.chB ∧ (settleClaim s).step = s.step
      ∧ (settleClaim s).level = s.level ∧ (settleClaim s).square = s.square ∧ (settleClaim s).wind = s.wind
      ∧ (settleClaim s).stop = s.stop ∧ (settleClaim s).road = s.road ∧ (settleClaim s).watch = s.watch
      ∧ (settleClaim s).free = s.free ∧ (settleClaim s).pending = s.pending := by
  unfold settleClaim; split <;> simp

@[simp] theorem takeAdmission_frame (s : State) :
    (takeAdmission s).node = s.node ∧ (takeAdmission s).store = s.store ∧ (takeAdmission s).cal = s.cal ∧ (takeAdmission s).inp = s.inp
      ∧ (takeAdmission s).bus = s.bus ∧ (takeAdmission s).peers = s.peers ∧ (takeAdmission s).orders = s.orders ∧ (takeAdmission s).chA = s.chA
      ∧ (takeAdmission s).chB = s.chB ∧ (takeAdmission s).step = s.step ∧ (takeAdmission s).level = s.level ∧ (takeAdmission s).square = s.square
      ∧ (takeAdmission s).wind = s.wind ∧ (takeAdmission s).stop = s.stop ∧ (takeAdmission s).road = s.road ∧ (takeAdmission s).watch = s.watch
      ∧ (takeAdmission s).free = s.free ∧ (takeAdmission s).pending = s.pending := by
  unfold takeAdmission; (repeat' split) <;> simp_all

@[simp] theorem zeroPasses_frame (s : State) :
    (zeroPasses s).node = s.node ∧ (zeroPasses s).store = s.store ∧ (zeroPasses s).cal = s.cal
      ∧ (zeroPasses s).inp = s.inp ∧ (zeroPasses s).bus = s.bus ∧ (zeroPasses s).peers = s.peers
      ∧ (zeroPasses s).orders = s.orders ∧ (zeroPasses s).chA = s.chA ∧ (zeroPasses s).chB = s.chB
      ∧ (zeroPasses s).step = s.step ∧ (zeroPasses s).level = s.level ∧ (zeroPasses s).square = s.square
      ∧ (zeroPasses s).wind = s.wind ∧ (zeroPasses s).stop = s.stop ∧ (zeroPasses s).road = s.road
      ∧ (zeroPasses s).watch = s.watch ∧ (zeroPasses s).free = s.free ∧ (zeroPasses s).pending = s.pending := by
  unfold zeroPasses; split <;> simp

@[simp] theorem addAcc_frame (n : Nat) (s : State) :
    (addAcc n s).node = s.node ∧ (addAcc n s).store = s.store ∧ (addAcc n s).cal = s.cal ∧ (addAcc n s).inp = s.inp
      ∧ (addAcc n s).bus = s.bus ∧ (addAcc n s).peers = s.peers ∧ (addAcc n s).orders = s.orders
      ∧ (addAcc n s).step = s.step ∧ (addAcc n s).supply = s.supply ∧ (addAcc n s).level = s.level
      ∧ (addAcc n s).square = s.square ∧ (addAcc n s).wind = s.wind ∧ (addAcc n s).stop = s.stop
      ∧ (addAcc n s).road = s.road ∧ (addAcc n s).watch = s.watch ∧ (addAcc n s).free = s.free
      ∧ (addAcc n s).pending = s.pending := by
  unfold addAcc; dsimp only; split <;> simp

@[simp] theorem closeStep_frame (s : State) :
    (closeStep s).node = s.node ∧ (closeStep s).store = s.store ∧ (closeStep s).cal = s.cal
      ∧ (closeStep s).inp = s.inp ∧ (closeStep s).bus = s.bus ∧ (closeStep s).peers = s.peers
      ∧ (closeStep s).orders = s.orders ∧ (closeStep s).supply = s.supply ∧ (closeStep s).level = s.level
      ∧ (closeStep s).square = s.square ∧ (closeStep s).wind = s.wind ∧ (closeStep s).stop = s.stop
      ∧ (closeStep s).road = s.road ∧ (closeStep s).watch = s.watch ∧ (closeStep s).free = s.free
      ∧ (closeStep s).pending = s.pending := by
  unfold closeStep; (repeat' split) <;> simp_all

@[simp] theorem endPlan_frame (o : PlanOutcome) (s : State) :
    (endPlan o s).node = s.node ∧ (endPlan o s).store = s.store ∧ (endPlan o s).cal = s.cal
      ∧ (endPlan o s).inp = s.inp ∧ (endPlan o s).peers = s.peers ∧ (endPlan o s).chA = s.chA
      ∧ (endPlan o s).chB = s.chB ∧ (endPlan o s).step = s.step ∧ (endPlan o s).supply = s.supply
      ∧ (endPlan o s).level = s.level ∧ (endPlan o s).square = s.square ∧ (endPlan o s).wind = s.wind
      ∧ (endPlan o s).stop = s.stop ∧ (endPlan o s).road = s.road ∧ (endPlan o s).watch = s.watch
      ∧ (endPlan o s).free = s.free ∧ (endPlan o s).pending = s.pending := by
  unfold endPlan; dsimp only; (repeat' split) <;> simp

@[simp] theorem windEnd_frame (t : Task) (how : EndHow) (s : State) :
    (windEnd t how s).node = s.node ∧ (windEnd t how s).store = s.store ∧ (windEnd t how s).cal = s.cal
      ∧ (windEnd t how s).inp = s.inp ∧ (windEnd t how s).bus = s.bus ∧ (windEnd t how s).peers = s.peers
      ∧ (windEnd t how s).orders = s.orders ∧ (windEnd t how s).chA = s.chA ∧ (windEnd t how s).chB = s.chB
      ∧ (windEnd t how s).step = s.step ∧ (windEnd t how s).supply = s.supply ∧ (windEnd t how s).level = s.level
      ∧ (windEnd t how s).square = s.square ∧ (windEnd t how s).stop = s.stop ∧ (windEnd t how s).road = s.road
      ∧ (windEnd t how s).watch = s.watch ∧ (windEnd t how s).free = s.free ∧ (windEnd t how s).pending = s.pending := by
  unfold windEnd; split <;> simp

@[simp] theorem stowEnd_frame (t : Task) (how : EndHow) (s : State) :
    (stowEnd t how s).node = s.node ∧ (stowEnd t how s).store = s.store ∧ (stowEnd t how s).cal = s.cal
      ∧ (stowEnd t how s).inp = s.inp ∧ (stowEnd t how s).bus = s.bus ∧ (stowEnd t how s).peers = s.peers
      ∧ (stowEnd t how s).orders = s.orders ∧ (stowEnd t how s).chA = s.chA ∧ (stowEnd t how s).chB = s.chB
      ∧ (stowEnd t how s).step = s.step ∧ (stowEnd t how s).supply = s.supply ∧ (stowEnd t how s).level = s.level
      ∧ (stowEnd t how s).square = s.square ∧ (stowEnd t how s).wind = s.wind ∧ (stowEnd t how s).stop = s.stop
      ∧ (stowEnd t how s).watch = s.watch ∧ (stowEnd t how s).free = s.free ∧ (stowEnd t how s).pending = s.pending := by
  unfold stowEnd; split <;> simp

@[simp] theorem squareRest_frame (s : State) :
    (squareRest s).node = s.node ∧ (squareRest s).store = s.store ∧ (squareRest s).cal = s.cal
      ∧ (squareRest s).inp = s.inp ∧ (squareRest s).bus = s.bus ∧ (squareRest s).peers = s.peers
      ∧ (squareRest s).orders = s.orders ∧ (squareRest s).chA = s.chA ∧ (squareRest s).chB = s.chB
      ∧ (squareRest s).step = s.step ∧ (squareRest s).supply = s.supply ∧ (squareRest s).level = s.level
      ∧ (squareRest s).wind = s.wind ∧ (squareRest s).stop = s.stop ∧ (squareRest s).road = s.road
      ∧ (squareRest s).watch = s.watch ∧ (squareRest s).free = s.free ∧ (squareRest s).pending = s.pending := by
  simp [squareRest]

@[simp] theorem finishOrder_frame (how : EndHow) (s : State) :
    (finishOrder how s).node = s.node ∧ (finishOrder how s).store = s.store ∧ (finishOrder how s).cal = s.cal
      ∧ (finishOrder how s).inp = s.inp ∧ (finishOrder how s).peers = s.peers ∧ (finishOrder how s).chA = s.chA
      ∧ (finishOrder how s).chB = s.chB ∧ (finishOrder how s).step = s.step ∧ (finishOrder how s).level = s.level
      ∧ (finishOrder how s).stop = s.stop ∧ (finishOrder how s).watch = s.watch ∧ (finishOrder how s).free = s.free
      ∧ (finishOrder how s).pending = s.pending := by
  unfold finishOrder; split <;> simp

@[simp] theorem startChan_frame (ch : ChanId) (origin : Origin) (dir : Dir) (s : State) :
    (startChan ch origin dir s).node = s.node ∧ (startChan ch origin dir s).store = s.store
      ∧ (startChan ch origin dir s).cal = s.cal ∧ (startChan ch origin dir s).inp = s.inp
      ∧ (startChan ch origin dir s).bus = s.bus ∧ (startChan ch origin dir s).peers = s.peers
      ∧ (startChan ch origin dir s).orders = s.orders ∧ (startChan ch origin dir s).step = s.step
      ∧ (startChan ch origin dir s).supply = s.supply ∧ (startChan ch origin dir s).level = s.level
      ∧ (startChan ch origin dir s).square = s.square ∧ (startChan ch origin dir s).wind = s.wind
      ∧ (startChan ch origin dir s).road = s.road ∧ (startChan ch origin dir s).watch = s.watch
      ∧ (startChan ch origin dir s).free = s.free ∧ (startChan ch origin dir s).pending = s.pending := by
  unfold startChan; dsimp only; (repeat' split) <;> simp

@[simp] theorem raiseIfWaiting_frame (origin : Origin) (s : State) :
    (raiseIfWaiting origin s).node = s.node ∧ (raiseIfWaiting origin s).store = s.store
      ∧ (raiseIfWaiting origin s).cal = s.cal ∧ (raiseIfWaiting origin s).inp = s.inp
      ∧ (raiseIfWaiting origin s).peers = s.peers ∧ (raiseIfWaiting origin s).orders = s.orders
      ∧ (raiseIfWaiting origin s).chA = s.chA ∧ (raiseIfWaiting origin s).chB = s.chB
      ∧ (raiseIfWaiting origin s).step = s.step ∧ (raiseIfWaiting origin s).level = s.level
      ∧ (raiseIfWaiting origin s).square = s.square ∧ (raiseIfWaiting origin s).wind = s.wind
      ∧ (raiseIfWaiting origin s).stop = s.stop ∧ (raiseIfWaiting origin s).road = s.road
      ∧ (raiseIfWaiting origin s).watch = s.watch ∧ (raiseIfWaiting origin s).free = s.free
      ∧ (raiseIfWaiting origin s).pending = s.pending := by
  unfold raiseIfWaiting; split <;> simp

@[simp] theorem clearLevel_frame (s : State) :
    (clearLevel s).node = s.node ∧ (clearLevel s).store = s.store ∧ (clearLevel s).cal = s.cal
      ∧ (clearLevel s).inp = s.inp ∧ (clearLevel s).bus = s.bus ∧ (clearLevel s).peers = s.peers
      ∧ (clearLevel s).orders = s.orders ∧ (clearLevel s).chA = s.chA ∧ (clearLevel s).chB = s.chB
      ∧ (clearLevel s).step = s.step ∧ (clearLevel s).supply = s.supply ∧ (clearLevel s).square = s.square
      ∧ (clearLevel s).wind = s.wind ∧ (clearLevel s).stop = s.stop ∧ (clearLevel s).road = s.road
      ∧ (clearLevel s).watch = s.watch ∧ (clearLevel s).free = s.free ∧ (clearLevel s).pending = s.pending := by
  simp [clearLevel]

@[simp] theorem clearSession_frame (s : State) :
    (clearSession s).node = s.node ∧ (clearSession s).store = s.store ∧ (clearSession s).cal = s.cal
      ∧ (clearSession s).inp = s.inp ∧ (clearSession s).bus = s.bus ∧ (clearSession s).peers = s.peers
      ∧ (clearSession s).orders = s.orders ∧ (clearSession s).chA = s.chA ∧ (clearSession s).chB = s.chB
      ∧ (clearSession s).step = s.step ∧ (clearSession s).supply = s.supply ∧ (clearSession s).square = s.square
      ∧ (clearSession s).wind = s.wind ∧ (clearSession s).stop = s.stop ∧ (clearSession s).road = s.road
      ∧ (clearSession s).watch = s.watch ∧ (clearSession s).free = s.free ∧ (clearSession s).pending = s.pending := by
  unfold clearSession; split <;> simp

@[simp] theorem stopDwell_frame (s : State) :
    (stopDwell s).node = s.node ∧ (stopDwell s).store = s.store ∧ (stopDwell s).cal = s.cal
      ∧ (stopDwell s).inp = s.inp ∧ (stopDwell s).bus = s.bus ∧ (stopDwell s).peers = s.peers
      ∧ (stopDwell s).orders = s.orders ∧ (stopDwell s).chA = s.chA ∧ (stopDwell s).chB = s.chB
      ∧ (stopDwell s).step = s.step ∧ (stopDwell s).supply = s.supply ∧ (stopDwell s).square = s.square
      ∧ (stopDwell s).wind = s.wind ∧ (stopDwell s).stop = s.stop ∧ (stopDwell s).road = s.road
      ∧ (stopDwell s).watch = s.watch ∧ (stopDwell s).free = s.free ∧ (stopDwell s).pending = s.pending := by
  simp [stopDwell]

@[simp] theorem restAll_frame (a : Activity) (s : State) :
    (restAll a s).node = s.node ∧ (restAll a s).store = s.store ∧ (restAll a s).cal = s.cal
      ∧ (restAll a s).inp = s.inp ∧ (restAll a s).bus = s.bus ∧ (restAll a s).peers = s.peers
      ∧ (restAll a s).orders = s.orders ∧ (restAll a s).supply = s.supply ∧ (restAll a s).level = s.level
      ∧ (restAll a s).square = s.square ∧ (restAll a s).wind = s.wind ∧ (restAll a s).stop = s.stop
      ∧ (restAll a s).road = s.road ∧ (restAll a s).watch = s.watch ∧ (restAll a s).free = s.free
      ∧ (restAll a s).pending = s.pending := by
  simp [restAll]

@[simp] theorem haltNode_frame (r : HaltReason) (s : State) :
    (haltNode r s).node = s.node ∧ (haltNode r s).store = s.store ∧ (haltNode r s).cal = s.cal
      ∧ (haltNode r s).inp = s.inp ∧ (haltNode r s).peers = s.peers ∧ (haltNode r s).stop = s.stop
      ∧ (haltNode r s).watch = s.watch ∧ (haltNode r s).free = s.free ∧ (haltNode r s).pending = s.pending := by
  simp [haltNode]

@[simp] theorem faultSession_frame (carried : Bool) (s : State) :
    (faultSession carried s).node = s.node ∧ (faultSession carried s).store = s.store
      ∧ (faultSession carried s).cal = s.cal ∧ (faultSession carried s).inp = s.inp
      ∧ (faultSession carried s).bus = s.bus ∧ (faultSession carried s).peers = s.peers
      ∧ (faultSession carried s).orders = s.orders ∧ (faultSession carried s).chA = s.chA
      ∧ (faultSession carried s).chB = s.chB ∧ (faultSession carried s).step = s.step
      ∧ (faultSession carried s).supply = s.supply ∧ (faultSession carried s).square = s.square
      ∧ (faultSession carried s).wind = s.wind ∧ (faultSession carried s).stop = s.stop
      ∧ (faultSession carried s).road = s.road ∧ (faultSession carried s).watch = s.watch
      ∧ (faultSession carried s).free = s.free ∧ (faultSession carried s).pending = s.pending := by
  unfold faultSession; split <;> simp

@[simp] theorem faultOrder_frame (carried : Bool) (s : State) :
    (faultOrder carried s).node = s.node ∧ (faultOrder carried s).store = s.store ∧ (faultOrder carried s).cal = s.cal
      ∧ (faultOrder carried s).inp = s.inp ∧ (faultOrder carried s).peers = s.peers
      ∧ (faultOrder carried s).chA = s.chA ∧ (faultOrder carried s).chB = s.chB ∧ (faultOrder carried s).step = s.step
      ∧ (faultOrder carried s).level = s.level ∧ (faultOrder carried s).stop = s.stop
      ∧ (faultOrder carried s).watch = s.watch ∧ (faultOrder carried s).free = s.free
      ∧ (faultOrder carried s).pending = s.pending := by
  unfold faultOrder; split <;> simp

@[simp] theorem chanFault_frame (ch : ChanId) (k : FaultKind) (d : Half) (s : State) :
    (chanFault ch k d s).node = s.node ∧ (chanFault ch k d s).store = s.store ∧ (chanFault ch k d s).cal = s.cal
      ∧ (chanFault ch k d s).inp = s.inp ∧ (chanFault ch k d s).peers = s.peers ∧ (chanFault ch k d s).watch = s.watch
      ∧ (chanFault ch k d s).free = s.free ∧ (chanFault ch k d s).pending = s.pending := by
  unfold chanFault; dsimp only; (repeat' split) <;> simp

@[simp] theorem pairFault_frame (k : FaultKind) (d : Half) (s : State) :
    (pairFault k d s).node = s.node ∧ (pairFault k d s).store = s.store ∧ (pairFault k d s).cal = s.cal
      ∧ (pairFault k d s).inp = s.inp ∧ (pairFault k d s).peers = s.peers ∧ (pairFault k d s).level = s.level
      ∧ (pairFault k d s).watch = s.watch ∧ (pairFault k d s).free = s.free ∧ (pairFault k d s).pending = s.pending := by
  simp [pairFault]

@[simp] theorem orderFault_frame (k : FaultKind) (d : Half) (s : State) :
    (orderFault k d s).node = s.node ∧ (orderFault k d s).store = s.store ∧ (orderFault k d s).cal = s.cal
      ∧ (orderFault k d s).inp = s.inp ∧ (orderFault k d s).peers = s.peers ∧ (orderFault k d s).watch = s.watch
      ∧ (orderFault k d s).free = s.free ∧ (orderFault k d s).pending = s.pending := by
  unfold orderFault; (repeat' split) <;> simp

@[simp] theorem accCheck_frame (s : State) :
    (accCheck s).node = s.node ∧ (accCheck s).store = s.store ∧ (accCheck s).cal = s.cal ∧ (accCheck s).inp = s.inp
      ∧ (accCheck s).peers = s.peers ∧ (accCheck s).watch = s.watch ∧ (accCheck s).free = s.free
      ∧ (accCheck s).pending = s.pending := by
  unfold accCheck; split <;> simp

@[simp] theorem updateAlarm_frame (s : State) :
    (updateAlarm s).node = s.node ∧ (updateAlarm s).store = s.store ∧ (updateAlarm s).cal = s.cal
      ∧ (updateAlarm s).inp = s.inp ∧ (updateAlarm s).bus = s.bus ∧ (updateAlarm s).peers = s.peers
      ∧ (updateAlarm s).orders = s.orders ∧ (updateAlarm s).chA = s.chA ∧ (updateAlarm s).chB = s.chB
      ∧ (updateAlarm s).step = s.step ∧ (updateAlarm s).supply = s.supply ∧ (updateAlarm s).level = s.level
      ∧ (updateAlarm s).square = s.square ∧ (updateAlarm s).wind = s.wind ∧ (updateAlarm s).stop = s.stop
      ∧ (updateAlarm s).watch = s.watch ∧ (updateAlarm s).free = s.free ∧ (updateAlarm s).pending = s.pending := by
  simp [updateAlarm]

end Sys2Proof.Machine
end

