-- ==== Sys2Proof/Laws/UnitFrames.lean ====
section
/-! SUPPORT. What the peer table, level unit, engines, order unit and plan unit leave as it was: one lemma for each, whose parts rewrite. -/

namespace Sys2Proof.Machine

/-! ### PeerTable -/

@[simp] theorem applyBeacon_frame (st : Nat) (b : Beacon) (s : State) :
    (applyBeacon st b s).node = s.node ∧ (applyBeacon st b s).store = s.store ∧ (applyBeacon st b s).cal = s.cal
      ∧ (applyBeacon st b s).inp = s.inp ∧ (applyBeacon st b s).bus = s.bus ∧ (applyBeacon st b s).orders = s.orders
      ∧ (applyBeacon st b s).chA = s.chA ∧ (applyBeacon st b s).chB = s.chB ∧ (applyBeacon st b s).step = s.step
      ∧ (applyBeacon st b s).supply = s.supply ∧ (applyBeacon st b s).level = s.level
      ∧ (applyBeacon st b s).square = s.square ∧ (applyBeacon st b s).wind = s.wind
      ∧ (applyBeacon st b s).stop = s.stop ∧ (applyBeacon st b s).road = s.road ∧ (applyBeacon st b s).watch = s.watch
      ∧ (applyBeacon st b s).free = s.free ∧ (applyBeacon st b s).pending = s.pending := by
  simp [applyBeacon]

@[simp] theorem applyDraw_frame (st : Nat) (c : Option ClaimRec) (s : State) :
    (applyDraw st c s).node = s.node ∧ (applyDraw st c s).store = s.store ∧ (applyDraw st c s).cal = s.cal
      ∧ (applyDraw st c s).inp = s.inp ∧ (applyDraw st c s).bus = s.bus ∧ (applyDraw st c s).orders = s.orders
      ∧ (applyDraw st c s).chA = s.chA ∧ (applyDraw st c s).chB = s.chB ∧ (applyDraw st c s).step = s.step
      ∧ (applyDraw st c s).supply = s.supply ∧ (applyDraw st c s).level = s.level
      ∧ (applyDraw st c s).square = s.square ∧ (applyDraw st c s).wind = s.wind ∧ (applyDraw st c s).stop = s.stop
      ∧ (applyDraw st c s).road = s.road ∧ (applyDraw st c s).watch = s.watch ∧ (applyDraw st c s).free = s.free
      ∧ (applyDraw st c s).pending = s.pending := by
  simp [applyDraw]

@[simp] theorem clearPeers_frame (s : State) :
    (clearPeers s).node = s.node ∧ (clearPeers s).store = s.store ∧ (clearPeers s).cal = s.cal
      ∧ (clearPeers s).inp = s.inp ∧ (clearPeers s).bus = s.bus ∧ (clearPeers s).orders = s.orders
      ∧ (clearPeers s).chA = s.chA ∧ (clearPeers s).chB = s.chB ∧ (clearPeers s).step = s.step
      ∧ (clearPeers s).supply = s.supply ∧ (clearPeers s).level = s.level ∧ (clearPeers s).square = s.square
      ∧ (clearPeers s).wind = s.wind ∧ (clearPeers s).stop = s.stop ∧ (clearPeers s).road = s.road
      ∧ (clearPeers s).watch = s.watch ∧ (clearPeers s).free = s.free ∧ (clearPeers s).pending = s.pending := by
  simp [clearPeers]

/-! ### LevelUnit -/

@[simp] theorem updateConsensus_frame (s : State) :
    (updateConsensus s).node = s.node ∧ (updateConsensus s).store = s.store ∧ (updateConsensus s).cal = s.cal
      ∧ (updateConsensus s).inp = s.inp ∧ (updateConsensus s).bus = s.bus ∧ (updateConsensus s).peers = s.peers
      ∧ (updateConsensus s).orders = s.orders ∧ (updateConsensus s).chA = s.chA ∧ (updateConsensus s).chB = s.chB
      ∧ (updateConsensus s).step = s.step ∧ (updateConsensus s).supply = s.supply
      ∧ (updateConsensus s).square = s.square ∧ (updateConsensus s).wind = s.wind ∧ (updateConsensus s).stop = s.stop
      ∧ (updateConsensus s).road = s.road ∧ (updateConsensus s).watch = s.watch ∧ (updateConsensus s).free = s.free
      ∧ (updateConsensus s).pending = s.pending := by
  simp [updateConsensus]

@[simp] theorem startLeg_frame (k : LegKind) (request : Nat) (s : State) :
    (startLeg k request s).node = s.node ∧ (startLeg k request s).store = s.store ∧ (startLeg k request s).cal = s.cal
      ∧ (startLeg k request s).inp = s.inp ∧ (startLeg k request s).peers = s.peers
      ∧ (startLeg k request s).orders = s.orders ∧ (startLeg k request s).step = s.step
      ∧ (startLeg k request s).square = s.square ∧ (startLeg k request s).wind = s.wind
      ∧ (startLeg k request s).road = s.road ∧ (startLeg k request s).watch = s.watch
      ∧ (startLeg k request s).free = s.free ∧ (startLeg k request s).pending = s.pending := by
  simp [startLeg]

@[simp] theorem stopLeg_frame (s : State) :
    (stopLeg s).node = s.node ∧ (stopLeg s).store = s.store ∧ (stopLeg s).cal = s.cal ∧ (stopLeg s).inp = s.inp
      ∧ (stopLeg s).peers = s.peers ∧ (stopLeg s).orders = s.orders ∧ (stopLeg s).square = s.square
      ∧ (stopLeg s).wind = s.wind ∧ (stopLeg s).stop = s.stop ∧ (stopLeg s).road = s.road
      ∧ (stopLeg s).watch = s.watch ∧ (stopLeg s).free = s.free ∧ (stopLeg s).pending = s.pending := by
  unfold stopLeg; split <;> simp

@[simp] theorem setRequest_frame (r : Nat) (s : State) :
    (setRequest r s).node = s.node ∧ (setRequest r s).store = s.store ∧ (setRequest r s).cal = s.cal
      ∧ (setRequest r s).inp = s.inp ∧ (setRequest r s).bus = s.bus ∧ (setRequest r s).peers = s.peers
      ∧ (setRequest r s).orders = s.orders ∧ (setRequest r s).chA = s.chA ∧ (setRequest r s).chB = s.chB
      ∧ (setRequest r s).step = s.step ∧ (setRequest r s).supply = s.supply ∧ (setRequest r s).square = s.square
      ∧ (setRequest r s).wind = s.wind ∧ (setRequest r s).stop = s.stop ∧ (setRequest r s).road = s.road
      ∧ (setRequest r s).watch = s.watch ∧ (setRequest r s).free = s.free ∧ (setRequest r s).pending = s.pending := by
  simp [setRequest]

@[simp] theorem enterSettling_frame (s : State) :
    (enterSettling s).node = s.node ∧ (enterSettling s).store = s.store ∧ (enterSettling s).cal = s.cal
      ∧ (enterSettling s).inp = s.inp ∧ (enterSettling s).bus = s.bus ∧ (enterSettling s).peers = s.peers
      ∧ (enterSettling s).orders = s.orders ∧ (enterSettling s).chA = s.chA ∧ (enterSettling s).chB = s.chB
      ∧ (enterSettling s).step = s.step ∧ (enterSettling s).supply = s.supply ∧ (enterSettling s).square = s.square
      ∧ (enterSettling s).wind = s.wind ∧ (enterSettling s).stop = s.stop ∧ (enterSettling s).road = s.road
      ∧ (enterSettling s).watch = s.watch ∧ (enterSettling s).free = s.free ∧ (enterSettling s).pending = s.pending := by
  simp [enterSettling]

@[simp] theorem enterSnugging_frame (s : State) :
    (enterSnugging s).node = s.node ∧ (enterSnugging s).store = s.store ∧ (enterSnugging s).cal = s.cal
      ∧ (enterSnugging s).inp = s.inp ∧ (enterSnugging s).peers = s.peers ∧ (enterSnugging s).orders = s.orders
      ∧ (enterSnugging s).step = s.step ∧ (enterSnugging s).square = s.square ∧ (enterSnugging s).wind = s.wind
      ∧ (enterSnugging s).road = s.road ∧ (enterSnugging s).watch = s.watch ∧ (enterSnugging s).free = s.free
      ∧ (enterSnugging s).pending = s.pending := by
  unfold enterSnugging; split <;> simp

@[simp] theorem liftEnd_frame (s : State) :
    (liftEnd s).node = s.node ∧ (liftEnd s).store = s.store ∧ (liftEnd s).cal = s.cal ∧ (liftEnd s).inp = s.inp
      ∧ (liftEnd s).peers = s.peers ∧ (liftEnd s).orders = s.orders ∧ (liftEnd s).square = s.square
      ∧ (liftEnd s).wind = s.wind ∧ (liftEnd s).road = s.road ∧ (liftEnd s).watch = s.watch
      ∧ (liftEnd s).free = s.free ∧ (liftEnd s).pending = s.pending := by
  unfold liftEnd; split <;> simp

@[simp] theorem setLimit_frame (s : State) :
    (setLimit s).node = s.node ∧ (setLimit s).store = s.store ∧ (setLimit s).cal = s.cal ∧ (setLimit s).inp = s.inp
      ∧ (setLimit s).bus = s.bus ∧ (setLimit s).peers = s.peers ∧ (setLimit s).orders = s.orders
      ∧ (setLimit s).chA = s.chA ∧ (setLimit s).chB = s.chB ∧ (setLimit s).step = s.step
      ∧ (setLimit s).supply = s.supply ∧ (setLimit s).square = s.square ∧ (setLimit s).wind = s.wind
      ∧ (setLimit s).stop = s.stop ∧ (setLimit s).road = s.road ∧ (setLimit s).watch = s.watch
      ∧ (setLimit s).free = s.free ∧ (setLimit s).pending = s.pending := by
  simp [setLimit]

@[simp] theorem evalLift_frame (s : State) :
    (evalLift s).node = s.node ∧ (evalLift s).store = s.store ∧ (evalLift s).cal = s.cal ∧ (evalLift s).inp = s.inp
      ∧ (evalLift s).peers = s.peers ∧ (evalLift s).orders = s.orders ∧ (evalLift s).square = s.square
      ∧ (evalLift s).wind = s.wind ∧ (evalLift s).road = s.road ∧ (evalLift s).watch = s.watch
      ∧ (evalLift s).free = s.free ∧ (evalLift s).pending = s.pending := by
  unfold evalLift; dsimp only; (repeat' split) <;> simp

@[simp] theorem tooSteep_frame (s : State) :
    (tooSteep s).node = s.node ∧ (tooSteep s).store = s.store ∧ (tooSteep s).cal = s.cal ∧ (tooSteep s).inp = s.inp
      ∧ (tooSteep s).peers = s.peers ∧ (tooSteep s).watch = s.watch ∧ (tooSteep s).free = s.free
      ∧ (tooSteep s).pending = s.pending := by
  simp [tooSteep]

@[simp] theorem enterLifting_frame (s : State) :
    (enterLifting s).node = s.node ∧ (enterLifting s).store = s.store ∧ (enterLifting s).cal = s.cal
      ∧ (enterLifting s).inp = s.inp ∧ (enterLifting s).peers = s.peers ∧ (enterLifting s).watch = s.watch
      ∧ (enterLifting s).free = s.free ∧ (enterLifting s).pending = s.pending := by
  unfold enterLifting; split <;> simp

@[simp] theorem testFooting_frame (s : State) :
    (testFooting s).node = s.node ∧ (testFooting s).store = s.store ∧ (testFooting s).cal = s.cal
      ∧ (testFooting s).inp = s.inp ∧ (testFooting s).peers = s.peers ∧ (testFooting s).watch = s.watch
      ∧ (testFooting s).free = s.free ∧ (testFooting s).pending = s.pending := by
  unfold testFooting; split <;> simp

@[simp] theorem updateDwell_frame (s : State) :
    (updateDwell s).node = s.node ∧ (updateDwell s).store = s.store ∧ (updateDwell s).cal = s.cal
      ∧ (updateDwell s).inp = s.inp ∧ (updateDwell s).bus = s.bus ∧ (updateDwell s).peers = s.peers
      ∧ (updateDwell s).orders = s.orders ∧ (updateDwell s).chA = s.chA ∧ (updateDwell s).chB = s.chB
      ∧ (updateDwell s).step = s.step ∧ (updateDwell s).supply = s.supply ∧ (updateDwell s).square = s.square
      ∧ (updateDwell s).wind = s.wind ∧ (updateDwell s).stop = s.stop ∧ (updateDwell s).road = s.road
      ∧ (updateDwell s).watch = s.watch ∧ (updateDwell s).free = s.free ∧ (updateDwell s).pending = s.pending := by
  simp [updateDwell]

@[simp] theorem evalLevel_frame (s : State) :
    (evalLevel s).node = s.node ∧ (evalLevel s).store = s.store ∧ (evalLevel s).cal = s.cal
      ∧ (evalLevel s).inp = s.inp ∧ (evalLevel s).peers = s.peers ∧ (evalLevel s).watch = s.watch
      ∧ (evalLevel s).free = s.free ∧ (evalLevel s).pending = s.pending := by
  unfold evalLevel; split <;> simp

@[simp] theorem enterTrim_frame (s : State) :
    (enterTrim s).node = s.node ∧ (enterTrim s).store = s.store ∧ (enterTrim s).cal = s.cal
      ∧ (enterTrim s).inp = s.inp ∧ (enterTrim s).peers = s.peers ∧ (enterTrim s).watch = s.watch
      ∧ (enterTrim s).free = s.free ∧ (enterTrim s).pending = s.pending := by
  unfold enterTrim; split <;> simp

@[simp] theorem trimComplete_frame (s : State) :
    (trimComplete s).node = s.node ∧ (trimComplete s).store = s.store ∧ (trimComplete s).cal = s.cal
      ∧ (trimComplete s).inp = s.inp ∧ (trimComplete s).peers = s.peers ∧ (trimComplete s).watch = s.watch
      ∧ (trimComplete s).free = s.free ∧ (trimComplete s).pending = s.pending := by
  unfold trimComplete; split <;> simp

@[simp] theorem beginSession_frame (s : State) :
    (beginSession s).node = s.node ∧ (beginSession s).store = s.store ∧ (beginSession s).cal = s.cal
      ∧ (beginSession s).inp = s.inp ∧ (beginSession s).peers = s.peers ∧ (beginSession s).watch = s.watch
      ∧ (beginSession s).free = s.free ∧ (beginSession s).pending = s.pending := by
  unfold beginSession; dsimp only; split <;> simp

@[simp] theorem footContact_frame (s : State) :
    (footContact s).node = s.node ∧ (footContact s).store = s.store ∧ (footContact s).cal = s.cal
      ∧ (footContact s).inp = s.inp ∧ (footContact s).peers = s.peers ∧ (footContact s).watch = s.watch
      ∧ (footContact s).free = s.free ∧ (footContact s).pending = s.pending := by
  unfold footContact; dsimp only; split <;> simp

@[simp] theorem enterStable_frame (s : State) :
    (enterStable s).node = s.node ∧ (enterStable s).store = s.store ∧ (enterStable s).cal = s.cal
      ∧ (enterStable s).inp = s.inp ∧ (enterStable s).peers = s.peers ∧ (enterStable s).chA = s.chA
      ∧ (enterStable s).chB = s.chB ∧ (enterStable s).step = s.step ∧ (enterStable s).stop = s.stop
      ∧ (enterStable s).watch = s.watch ∧ (enterStable s).free = s.free ∧ (enterStable s).pending = s.pending := by
  simp [enterStable]

@[simp] theorem settlingDone_frame (s : State) :
    (settlingDone s).node = s.node ∧ (settlingDone s).store = s.store ∧ (settlingDone s).cal = s.cal
      ∧ (settlingDone s).inp = s.inp ∧ (settlingDone s).peers = s.peers ∧ (settlingDone s).watch = s.watch
      ∧ (settlingDone s).free = s.free ∧ (settlingDone s).pending = s.pending := by
  unfold settlingDone; dsimp only; (repeat' split) <;> simp

@[simp] theorem sessionPeerLost_frame (detail : Nat) (s : State) :
    (sessionPeerLost detail s).node = s.node ∧ (sessionPeerLost detail s).store = s.store
      ∧ (sessionPeerLost detail s).cal = s.cal ∧ (sessionPeerLost detail s).inp = s.inp
      ∧ (sessionPeerLost detail s).peers = s.peers ∧ (sessionPeerLost detail s).watch = s.watch
      ∧ (sessionPeerLost detail s).free = s.free ∧ (sessionPeerLost detail s).pending = s.pending := by
  simp [sessionPeerLost]

@[simp] theorem tiltFault_frame (s : State) :
    (tiltFault s).node = s.node ∧ (tiltFault s).store = s.store ∧ (tiltFault s).cal = s.cal
      ∧ (tiltFault s).inp = s.inp ∧ (tiltFault s).peers = s.peers ∧ (tiltFault s).watch = s.watch
      ∧ (tiltFault s).free = s.free ∧ (tiltFault s).pending = s.pending := by
  unfold tiltFault; dsimp only; (repeat' split) <;> simp

@[simp] theorem strokeLimit_frame (s : State) :
    (strokeLimit s).node = s.node ∧ (strokeLimit s).store = s.store ∧ (strokeLimit s).cal = s.cal
      ∧ (strokeLimit s).inp = s.inp ∧ (strokeLimit s).peers = s.peers ∧ (strokeLimit s).watch = s.watch
      ∧ (strokeLimit s).free = s.free ∧ (strokeLimit s).pending = s.pending := by
  unfold strokeLimit; dsimp only; split <;> simp

@[simp] theorem takeReading_frame (r : Int × Int) (s : State) :
    (takeReading r s).node = s.node ∧ (takeReading r s).store = s.store ∧ (takeReading r s).cal = s.cal
      ∧ (takeReading r s).inp = s.inp ∧ (takeReading r s).peers = s.peers ∧ (takeReading r s).watch = s.watch
      ∧ (takeReading r s).free = s.free ∧ (takeReading r s).pending = s.pending := by
  simp [takeReading]

/-! ### Engine -/

@[simp] theorem recompose_frame (s : State) :
    (recompose s).node = s.node ∧ (recompose s).store = s.store ∧ (recompose s).cal = s.cal
      ∧ (recompose s).inp = s.inp ∧ (recompose s).bus = s.bus ∧ (recompose s).peers = s.peers
      ∧ (recompose s).orders = s.orders ∧ (recompose s).step = s.step ∧ (recompose s).supply = s.supply
      ∧ (recompose s).level = s.level ∧ (recompose s).square = s.square ∧ (recompose s).wind = s.wind
      ∧ (recompose s).stop = s.stop ∧ (recompose s).road = s.road ∧ (recompose s).watch = s.watch
      ∧ (recompose s).free = s.free ∧ (recompose s).pending = s.pending := by
  simp [recompose]

@[simp] theorem openStep_frame (s : State) :
    (openStep s).node = s.node ∧ (openStep s).store = s.store ∧ (openStep s).cal = s.cal ∧ (openStep s).inp = s.inp
      ∧ (openStep s).bus = s.bus ∧ (openStep s).peers = s.peers ∧ (openStep s).orders = s.orders
      ∧ (openStep s).supply = s.supply ∧ (openStep s).level = s.level ∧ (openStep s).square = s.square
      ∧ (openStep s).wind = s.wind ∧ (openStep s).stop = s.stop ∧ (openStep s).road = s.road
      ∧ (openStep s).watch = s.watch ∧ (openStep s).free = s.free ∧ (openStep s).pending = s.pending := by
  simp [openStep]

@[simp] theorem squareTest_frame (s : State) :
    (squareTest s).node = s.node ∧ (squareTest s).store = s.store ∧ (squareTest s).cal = s.cal
      ∧ (squareTest s).inp = s.inp ∧ (squareTest s).bus = s.bus ∧ (squareTest s).peers = s.peers
      ∧ (squareTest s).orders = s.orders ∧ (squareTest s).chA = s.chA ∧ (squareTest s).chB = s.chB
      ∧ (squareTest s).step = s.step ∧ (squareTest s).supply = s.supply ∧ (squareTest s).level = s.level
      ∧ (squareTest s).wind = s.wind ∧ (squareTest s).stop = s.stop ∧ (squareTest s).road = s.road
      ∧ (squareTest s).watch = s.watch ∧ (squareTest s).free = s.free ∧ (squareTest s).pending = s.pending := by
  unfold squareTest; (repeat' split) <;> simp_all

@[simp] theorem updateWaits_frame (s : State) :
    (updateWaits s).node = s.node ∧ (updateWaits s).store = s.store ∧ (updateWaits s).cal = s.cal
      ∧ (updateWaits s).inp = s.inp ∧ (updateWaits s).bus = s.bus ∧ (updateWaits s).peers = s.peers
      ∧ (updateWaits s).orders = s.orders ∧ (updateWaits s).step = s.step ∧ (updateWaits s).supply = s.supply
      ∧ (updateWaits s).level = s.level ∧ (updateWaits s).square = s.square ∧ (updateWaits s).wind = s.wind
      ∧ (updateWaits s).stop = s.stop ∧ (updateWaits s).road = s.road ∧ (updateWaits s).watch = s.watch
      ∧ (updateWaits s).free = s.free ∧ (updateWaits s).pending = s.pending := by
  simp [updateWaits]

@[simp] theorem yieldAll_frame (s : State) :
    (yieldAll s).node = s.node ∧ (yieldAll s).store = s.store ∧ (yieldAll s).cal = s.cal ∧ (yieldAll s).inp = s.inp
      ∧ (yieldAll s).peers = s.peers ∧ (yieldAll s).watch = s.watch ∧ (yieldAll s).free = s.free
      ∧ (yieldAll s).pending = s.pending := by
  simp [yieldAll]

@[simp] theorem placeChan_frame (ch : ChanId) (n : Nat) (s : State) :
    (placeChan ch n s).node = s.node ∧ (placeChan ch n s).store = s.store ∧ (placeChan ch n s).cal = s.cal
      ∧ (placeChan ch n s).inp = s.inp ∧ (placeChan ch n s).bus = s.bus ∧ (placeChan ch n s).peers = s.peers
      ∧ (placeChan ch n s).orders = s.orders ∧ (placeChan ch n s).step = s.step ∧ (placeChan ch n s).supply = s.supply
      ∧ (placeChan ch n s).level = s.level ∧ (placeChan ch n s).square = s.square ∧ (placeChan ch n s).wind = s.wind
      ∧ (placeChan ch n s).watch = s.watch ∧ (placeChan ch n s).free = s.free ∧ (placeChan ch n s).pending = s.pending := by
  unfold placeChan; dsimp only; split <;> simp

@[simp] theorem snapHome_frame (ch : ChanId) (s : State) :
    (snapHome ch s).node = s.node ∧ (snapHome ch s).store = s.store ∧ (snapHome ch s).cal = s.cal
      ∧ (snapHome ch s).inp = s.inp ∧ (snapHome ch s).bus = s.bus ∧ (snapHome ch s).peers = s.peers
      ∧ (snapHome ch s).orders = s.orders ∧ (snapHome ch s).step = s.step ∧ (snapHome ch s).supply = s.supply
      ∧ (snapHome ch s).square = s.square ∧ (snapHome ch s).wind = s.wind ∧ (snapHome ch s).watch = s.watch
      ∧ (snapHome ch s).free = s.free ∧ (snapHome ch s).pending = s.pending := by
  unfold snapHome; dsimp only; split <;> simp

@[simp] theorem snapOut_frame (ch : ChanId) (s : State) :
    (snapOut ch s).node = s.node ∧ (snapOut ch s).store = s.store ∧ (snapOut ch s).cal = s.cal
      ∧ (snapOut ch s).inp = s.inp ∧ (snapOut ch s).bus = s.bus ∧ (snapOut ch s).peers = s.peers
      ∧ (snapOut ch s).orders = s.orders ∧ (snapOut ch s).step = s.step ∧ (snapOut ch s).supply = s.supply
      ∧ (snapOut ch s).level = s.level ∧ (snapOut ch s).square = s.square ∧ (snapOut ch s).wind = s.wind
      ∧ (snapOut ch s).watch = s.watch ∧ (snapOut ch s).free = s.free ∧ (snapOut ch s).pending = s.pending := by
  simp [snapOut]

@[simp] theorem endOfTravel_frame (ch : ChanId) (s : State) :
    (endOfTravel ch s).node = s.node ∧ (endOfTravel ch s).store = s.store ∧ (endOfTravel ch s).cal = s.cal
      ∧ (endOfTravel ch s).inp = s.inp ∧ (endOfTravel ch s).peers = s.peers ∧ (endOfTravel ch s).level = s.level
      ∧ (endOfTravel ch s).stop = s.stop ∧ (endOfTravel ch s).watch = s.watch ∧ (endOfTravel ch s).free = s.free
      ∧ (endOfTravel ch s).pending = s.pending := by
  unfold endOfTravel; dsimp only; split <;> simp

@[simp] theorem tryDrive_frame (ch : ChanId) (s : State) :
    (tryDrive ch s).node = s.node ∧ (tryDrive ch s).store = s.store ∧ (tryDrive ch s).cal = s.cal
      ∧ (tryDrive ch s).inp = s.inp ∧ (tryDrive ch s).peers = s.peers ∧ (tryDrive ch s).watch = s.watch
      ∧ (tryDrive ch s).free = s.free ∧ (tryDrive ch s).pending = s.pending := by
  unfold tryDrive; dsimp only; (repeat' split) <;> simp

@[simp] theorem afterDrive_frame (s t : State) :
    (afterDrive s t).node = t.node ∧ (afterDrive s t).store = t.store ∧ (afterDrive s t).cal = t.cal
      ∧ (afterDrive s t).inp = t.inp ∧ (afterDrive s t).peers = t.peers ∧ (afterDrive s t).watch = t.watch
      ∧ (afterDrive s t).free = t.free ∧ (afterDrive s t).pending = t.pending := by
  unfold afterDrive; split <;> simp

@[simp] theorem beginSteps_frame (s : State) :
    (beginSteps s).node = s.node ∧ (beginSteps s).store = s.store ∧ (beginSteps s).cal = s.cal
      ∧ (beginSteps s).inp = s.inp ∧ (beginSteps s).bus = s.bus ∧ (beginSteps s).peers = s.peers
      ∧ (beginSteps s).orders = s.orders ∧ (beginSteps s).supply = s.supply ∧ (beginSteps s).level = s.level
      ∧ (beginSteps s).square = s.square ∧ (beginSteps s).wind = s.wind ∧ (beginSteps s).stop = s.stop
      ∧ (beginSteps s).road = s.road ∧ (beginSteps s).watch = s.watch ∧ (beginSteps s).free = s.free
      ∧ (beginSteps s).pending = s.pending := by
  unfold beginSteps; split <;> simp

@[simp] theorem engage_frame (s : State) :
    (engage s).node = s.node ∧ (engage s).store = s.store ∧ (engage s).cal = s.cal ∧ (engage s).inp = s.inp
      ∧ (engage s).peers = s.peers ∧ (engage s).watch = s.watch ∧ (engage s).free = s.free
      ∧ (engage s).pending = s.pending := by
  unfold engage; dsimp only; split <;> simp

@[simp] theorem lowUpdate_frame (s : State) :
    (lowUpdate s).node = s.node ∧ (lowUpdate s).store = s.store ∧ (lowUpdate s).cal = s.cal
      ∧ (lowUpdate s).inp = s.inp ∧ (lowUpdate s).bus = s.bus ∧ (lowUpdate s).peers = s.peers
      ∧ (lowUpdate s).orders = s.orders ∧ (lowUpdate s).chA = s.chA ∧ (lowUpdate s).chB = s.chB
      ∧ (lowUpdate s).step = s.step ∧ (lowUpdate s).level = s.level ∧ (lowUpdate s).square = s.square
      ∧ (lowUpdate s).wind = s.wind ∧ (lowUpdate s).stop = s.stop ∧ (lowUpdate s).road = s.road
      ∧ (lowUpdate s).watch = s.watch ∧ (lowUpdate s).free = s.free ∧ (lowUpdate s).pending = s.pending := by
  simp [lowUpdate]

@[simp] theorem rackUpdate_frame (s : State) :
    (rackUpdate s).node = s.node ∧ (rackUpdate s).store = s.store ∧ (rackUpdate s).cal = s.cal
      ∧ (rackUpdate s).inp = s.inp ∧ (rackUpdate s).bus = s.bus ∧ (rackUpdate s).peers = s.peers
      ∧ (rackUpdate s).orders = s.orders ∧ (rackUpdate s).chA = s.chA ∧ (rackUpdate s).chB = s.chB
      ∧ (rackUpdate s).step = s.step ∧ (rackUpdate s).supply = s.supply ∧ (rackUpdate s).level = s.level
      ∧ (rackUpdate s).wind = s.wind ∧ (rackUpdate s).stop = s.stop ∧ (rackUpdate s).road = s.road
      ∧ (rackUpdate s).watch = s.watch ∧ (rackUpdate s).free = s.free ∧ (rackUpdate s).pending = s.pending := by
  unfold rackUpdate; split <;> simp

@[simp] theorem runEngines_frame (s : State) :
    (runEngines s).node = s.node ∧ (runEngines s).store = s.store ∧ (runEngines s).cal = s.cal
      ∧ (runEngines s).inp = s.inp ∧ (runEngines s).peers = s.peers ∧ (runEngines s).watch = s.watch
      ∧ (runEngines s).free = s.free ∧ (runEngines s).pending = s.pending := by
  simp [runEngines]

/-! ### OrderUnit -/

@[simp] theorem endPrevious_frame (s : State) :
    (endPrevious s).node = s.node ∧ (endPrevious s).store = s.store ∧ (endPrevious s).cal = s.cal
      ∧ (endPrevious s).inp = s.inp ∧ (endPrevious s).peers = s.peers ∧ (endPrevious s).chA = s.chA
      ∧ (endPrevious s).chB = s.chB ∧ (endPrevious s).step = s.step ∧ (endPrevious s).wind = s.wind
      ∧ (endPrevious s).stop = s.stop ∧ (endPrevious s).watch = s.watch ∧ (endPrevious s).free = s.free
      ∧ (endPrevious s).pending = s.pending := by
  unfold endPrevious; dsimp only; (repeat' split) <;> simp

@[simp] theorem endStanding_frame (o : CurOrder) (s : State) :
    (endStanding o s).node = s.node ∧ (endStanding o s).store = s.store ∧ (endStanding o s).cal = s.cal
      ∧ (endStanding o s).inp = s.inp ∧ (endStanding o s).bus = s.bus ∧ (endStanding o s).peers = s.peers
      ∧ (endStanding o s).orders = s.orders ∧ (endStanding o s).chA = s.chA ∧ (endStanding o s).chB = s.chB
      ∧ (endStanding o s).step = s.step ∧ (endStanding o s).supply = s.supply ∧ (endStanding o s).square = s.square
      ∧ (endStanding o s).wind = s.wind ∧ (endStanding o s).stop = s.stop ∧ (endStanding o s).road = s.road
      ∧ (endStanding o s).watch = s.watch ∧ (endStanding o s).free = s.free ∧ (endStanding o s).pending = s.pending := by
  unfold endStanding; split <;> simp

@[simp] theorem startAll_frame (origin : Origin) (dir : Dir) (s : State) :
    (startAll origin dir s).node = s.node ∧ (startAll origin dir s).store = s.store
      ∧ (startAll origin dir s).cal = s.cal ∧ (startAll origin dir s).inp = s.inp
      ∧ (startAll origin dir s).bus = s.bus ∧ (startAll origin dir s).peers = s.peers
      ∧ (startAll origin dir s).orders = s.orders ∧ (startAll origin dir s).step = s.step
      ∧ (startAll origin dir s).supply = s.supply ∧ (startAll origin dir s).level = s.level
      ∧ (startAll origin dir s).square = s.square ∧ (startAll origin dir s).wind = s.wind
      ∧ (startAll origin dir s).road = s.road ∧ (startAll origin dir s).watch = s.watch
      ∧ (startAll origin dir s).free = s.free ∧ (startAll origin dir s).pending = s.pending := by
  unfold startAll State.chanIds; split <;> simp

@[simp] theorem dropStep_frame (s : State) :
    (dropStep s).node = s.node ∧ (dropStep s).store = s.store ∧ (dropStep s).cal = s.cal ∧ (dropStep s).inp = s.inp
      ∧ (dropStep s).bus = s.bus ∧ (dropStep s).peers = s.peers ∧ (dropStep s).orders = s.orders
      ∧ (dropStep s).chA = s.chA ∧ (dropStep s).chB = s.chB ∧ (dropStep s).supply = s.supply
      ∧ (dropStep s).level = s.level ∧ (dropStep s).square = s.square ∧ (dropStep s).wind = s.wind
      ∧ (dropStep s).stop = s.stop ∧ (dropStep s).road = s.road ∧ (dropStep s).watch = s.watch
      ∧ (dropStep s).free = s.free ∧ (dropStep s).pending = s.pending := by
  unfold dropStep; split <;> simp

@[simp] theorem reclaim_frame (origin : Origin) (s : State) :
    (reclaim origin s).node = s.node ∧ (reclaim origin s).store = s.store ∧ (reclaim origin s).cal = s.cal
      ∧ (reclaim origin s).inp = s.inp ∧ (reclaim origin s).peers = s.peers ∧ (reclaim origin s).orders = s.orders
      ∧ (reclaim origin s).chA = s.chA ∧ (reclaim origin s).chB = s.chB ∧ (reclaim origin s).step = s.step
      ∧ (reclaim origin s).level = s.level ∧ (reclaim origin s).square = s.square ∧ (reclaim origin s).wind = s.wind
      ∧ (reclaim origin s).stop = s.stop ∧ (reclaim origin s).road = s.road ∧ (reclaim origin s).watch = s.watch
      ∧ (reclaim origin s).free = s.free ∧ (reclaim origin s).pending = s.pending := by
  unfold reclaim; split <;> simp

@[simp] theorem beginOrder_frame (o : CurOrder) (hold : Option Hold) (s : State) :
    (beginOrder o hold s).node = s.node ∧ (beginOrder o hold s).store = s.store ∧ (beginOrder o hold s).cal = s.cal
      ∧ (beginOrder o hold s).inp = s.inp ∧ (beginOrder o hold s).peers = s.peers
      ∧ (beginOrder o hold s).watch = s.watch ∧ (beginOrder o hold s).free = s.free
      ∧ (beginOrder o hold s).pending = s.pending := by
  unfold beginOrder; split <;> simp

@[simp] theorem endQuiet_frame (s : State) :
    (endQuiet s).node = s.node ∧ (endQuiet s).store = s.store ∧ (endQuiet s).cal = s.cal ∧ (endQuiet s).inp = s.inp
      ∧ (endQuiet s).bus = s.bus ∧ (endQuiet s).peers = s.peers ∧ (endQuiet s).chA = s.chA ∧ (endQuiet s).chB = s.chB
      ∧ (endQuiet s).step = s.step ∧ (endQuiet s).supply = s.supply ∧ (endQuiet s).level = s.level
      ∧ (endQuiet s).square = s.square ∧ (endQuiet s).wind = s.wind ∧ (endQuiet s).road = s.road
      ∧ (endQuiet s).watch = s.watch ∧ (endQuiet s).free = s.free ∧ (endQuiet s).pending = s.pending := by
  simp [endQuiet]

@[simp] theorem beginAuto_frame (t : Task) (s : State) :
    (beginAuto t s).node = s.node ∧ (beginAuto t s).store = s.store ∧ (beginAuto t s).cal = s.cal
      ∧ (beginAuto t s).inp = s.inp ∧ (beginAuto t s).peers = s.peers ∧ (beginAuto t s).watch = s.watch
      ∧ (beginAuto t s).free = s.free ∧ (beginAuto t s).pending = s.pending := by
  simp [beginAuto]

@[simp] theorem windTest_frame (s : State) :
    (windTest s).node = s.node ∧ (windTest s).store = s.store ∧ (windTest s).cal = s.cal ∧ (windTest s).inp = s.inp
      ∧ (windTest s).peers = s.peers ∧ (windTest s).watch = s.watch ∧ (windTest s).free = s.free
      ∧ (windTest s).pending = s.pending := by
  unfold windTest; split <;> simp

@[simp] theorem leftStowed_frame (before : PosClass) (s : State) :
    (leftStowed before s).node = s.node ∧ (leftStowed before s).store = s.store ∧ (leftStowed before s).cal = s.cal
      ∧ (leftStowed before s).inp = s.inp ∧ (leftStowed before s).peers = s.peers
      ∧ (leftStowed before s).watch = s.watch ∧ (leftStowed before s).free = s.free
      ∧ (leftStowed before s).pending = s.pending := by
  unfold leftStowed; split <;> simp

/-- Where the class has not left STOWED, or the wind unit raises nothing, `settle` adds nothing of its own. -/
theorem leftStowed_eq {before : PosClass} {s : State}
    (h : before ≠ .stowed ∨ s.chA.cls = .stowed ∨ s.windRaises = false) : leftStowed before s = s := by
  unfold leftStowed windTest
  rcases h with h | h | h <;> simp [h]

@[simp] theorem settle_frame (s : State) :
    (settle s).node = s.node ∧ (settle s).store = s.store ∧ (settle s).cal = s.cal ∧ (settle s).inp = s.inp
      ∧ (settle s).peers = s.peers ∧ (settle s).watch = s.watch ∧ (settle s).free = s.free
      ∧ (settle s).pending = s.pending := by
  unfold settle; split <;> simp

@[simp] theorem raiseStow_frame (s : State) :
    (raiseStow s).node = s.node ∧ (raiseStow s).store = s.store ∧ (raiseStow s).cal = s.cal
      ∧ (raiseStow s).inp = s.inp ∧ (raiseStow s).peers = s.peers ∧ (raiseStow s).watch = s.watch
      ∧ (raiseStow s).free = s.free ∧ (raiseStow s).pending = s.pending := by
  simp [raiseStow]

@[simp] theorem setStow_frame (x : Stow) (s : State) :
    (setStow x s).node = s.node ∧ (setStow x s).store = s.store ∧ (setStow x s).cal = s.cal
      ∧ (setStow x s).inp = s.inp ∧ (setStow x s).bus = s.bus ∧ (setStow x s).peers = s.peers
      ∧ (setStow x s).orders = s.orders ∧ (setStow x s).chA = s.chA ∧ (setStow x s).chB = s.chB
      ∧ (setStow x s).step = s.step ∧ (setStow x s).supply = s.supply ∧ (setStow x s).level = s.level
      ∧ (setStow x s).square = s.square ∧ (setStow x s).wind = s.wind ∧ (setStow x s).stop = s.stop
      ∧ (setStow x s).watch = s.watch ∧ (setStow x s).free = s.free ∧ (setStow x s).pending = s.pending := by
  simp [setStow]

@[simp] theorem heldBackTest_frame (s : State) :
    (heldBackTest s).node = s.node ∧ (heldBackTest s).store = s.store ∧ (heldBackTest s).cal = s.cal
      ∧ (heldBackTest s).inp = s.inp ∧ (heldBackTest s).peers = s.peers ∧ (heldBackTest s).watch = s.watch
      ∧ (heldBackTest s).free = s.free ∧ (heldBackTest s).pending = s.pending := by
  unfold heldBackTest; (repeat' split) <;> simp_all

@[simp] theorem stowBegin_frame (s : State) :
    (stowBegin s).node = s.node ∧ (stowBegin s).store = s.store ∧ (stowBegin s).cal = s.cal
      ∧ (stowBegin s).inp = s.inp ∧ (stowBegin s).peers = s.peers ∧ (stowBegin s).watch = s.watch
      ∧ (stowBegin s).free = s.free ∧ (stowBegin s).pending = s.pending := by
  unfold stowBegin; dsimp only; (repeat' split) <;> simp

@[simp] theorem stowAtRun_frame (s : State) :
    (stowAtRun s).node = s.node ∧ (stowAtRun s).store = s.store ∧ (stowAtRun s).cal = s.cal
      ∧ (stowAtRun s).inp = s.inp ∧ (stowAtRun s).peers = s.peers ∧ (stowAtRun s).watch = s.watch
      ∧ (stowAtRun s).free = s.free ∧ (stowAtRun s).pending = s.pending := by
  unfold stowAtRun; split <;> simp

@[simp] theorem spendPresses_frame (s : State) :
    (spendPresses s).node = s.node ∧ (spendPresses s).store = s.store ∧ (spendPresses s).cal = s.cal
      ∧ (spendPresses s).inp = s.inp ∧ (spendPresses s).bus = s.bus ∧ (spendPresses s).peers = s.peers
      ∧ (spendPresses s).chA = s.chA ∧ (spendPresses s).chB = s.chB ∧ (spendPresses s).step = s.step
      ∧ (spendPresses s).supply = s.supply ∧ (spendPresses s).level = s.level ∧ (spendPresses s).square = s.square
      ∧ (spendPresses s).wind = s.wind ∧ (spendPresses s).stop = s.stop ∧ (spendPresses s).road = s.road
      ∧ (spendPresses s).watch = s.watch ∧ (spendPresses s).free = s.free ∧ (spendPresses s).pending = s.pending := by
  simp [spendPresses]

@[simp] theorem haltAll_frame (r : HaltReason) (s : State) :
    (haltAll r s).node = s.node ∧ (haltAll r s).store = s.store ∧ (haltAll r s).cal = s.cal
      ∧ (haltAll r s).inp = s.inp ∧ (haltAll r s).peers = s.peers ∧ (haltAll r s).stop = s.stop
      ∧ (haltAll r s).watch = s.watch ∧ (haltAll r s).free = s.free ∧ (haltAll r s).pending = s.pending := by
  simp [haltAll]

@[simp] theorem stopFall_frame (s : State) :
    (stopFall s).node = s.node ∧ (stopFall s).store = s.store ∧ (stopFall s).cal = s.cal ∧ (stopFall s).inp = s.inp
      ∧ (stopFall s).peers = s.peers ∧ (stopFall s).watch = s.watch ∧ (stopFall s).free = s.free
      ∧ (stopFall s).pending = s.pending := by
  simp [stopFall]

@[simp] theorem roadHalt_frame (s : State) :
    (roadHalt s).node = s.node ∧ (roadHalt s).store = s.store ∧ (roadHalt s).cal = s.cal ∧ (roadHalt s).inp = s.inp
      ∧ (roadHalt s).peers = s.peers ∧ (roadHalt s).stop = s.stop ∧ (roadHalt s).watch = s.watch
      ∧ (roadHalt s).free = s.free ∧ (roadHalt s).pending = s.pending := by
  unfold roadHalt; (repeat' split) <;> simp_all

@[simp] theorem roadPlan_frame (s : State) :
    (roadPlan s).node = s.node ∧ (roadPlan s).store = s.store ∧ (roadPlan s).cal = s.cal ∧ (roadPlan s).inp = s.inp
      ∧ (roadPlan s).peers = s.peers ∧ (roadPlan s).step = s.step ∧ (roadPlan s).supply = s.supply
      ∧ (roadPlan s).level = s.level ∧ (roadPlan s).square = s.square ∧ (roadPlan s).wind = s.wind
      ∧ (roadPlan s).stop = s.stop ∧ (roadPlan s).road = s.road ∧ (roadPlan s).watch = s.watch
      ∧ (roadPlan s).free = s.free ∧ (roadPlan s).pending = s.pending := by
  unfold roadPlan; dsimp only; (repeat' split) <;> simp

@[simp] theorem roadAlarm_frame (s : State) :
    (roadAlarm s).node = s.node ∧ (roadAlarm s).store = s.store ∧ (roadAlarm s).cal = s.cal
      ∧ (roadAlarm s).inp = s.inp ∧ (roadAlarm s).peers = s.peers ∧ (roadAlarm s).orders = s.orders
      ∧ (roadAlarm s).chA = s.chA ∧ (roadAlarm s).chB = s.chB ∧ (roadAlarm s).step = s.step
      ∧ (roadAlarm s).supply = s.supply ∧ (roadAlarm s).level = s.level ∧ (roadAlarm s).square = s.square
      ∧ (roadAlarm s).wind = s.wind ∧ (roadAlarm s).stop = s.stop ∧ (roadAlarm s).watch = s.watch
      ∧ (roadAlarm s).free = s.free ∧ (roadAlarm s).pending = s.pending := by
  unfold roadAlarm; dsimp only; split <;> simp

@[simp] theorem roadRelease_frame (s : State) :
    (roadRelease s).node = s.node ∧ (roadRelease s).store = s.store ∧ (roadRelease s).cal = s.cal
      ∧ (roadRelease s).inp = s.inp ∧ (roadRelease s).peers = s.peers ∧ (roadRelease s).watch = s.watch
      ∧ (roadRelease s).free = s.free ∧ (roadRelease s).pending = s.pending := by
  unfold roadRelease; dsimp only; split <;> simp

@[simp] theorem cancelStow_frame (s : State) :
    (cancelStow s).node = s.node ∧ (cancelStow s).store = s.store ∧ (cancelStow s).cal = s.cal
      ∧ (cancelStow s).inp = s.inp ∧ (cancelStow s).peers = s.peers ∧ (cancelStow s).level = s.level
      ∧ (cancelStow s).stop = s.stop ∧ (cancelStow s).watch = s.watch ∧ (cancelStow s).free = s.free
      ∧ (cancelStow s).pending = s.pending := by
  unfold cancelStow; split <;> simp

@[simp] theorem parkAsserted_frame (s : State) :
    (parkAsserted s).node = s.node ∧ (parkAsserted s).store = s.store ∧ (parkAsserted s).cal = s.cal
      ∧ (parkAsserted s).inp = s.inp ∧ (parkAsserted s).peers = s.peers ∧ (parkAsserted s).level = s.level
      ∧ (parkAsserted s).stop = s.stop ∧ (parkAsserted s).watch = s.watch ∧ (parkAsserted s).free = s.free
      ∧ (parkAsserted s).pending = s.pending := by
  simp [parkAsserted]

@[simp] theorem restartIdle_frame (s : State) :
    (restartIdle s).node = s.node ∧ (restartIdle s).store = s.store ∧ (restartIdle s).cal = s.cal
      ∧ (restartIdle s).inp = s.inp ∧ (restartIdle s).bus = s.bus ∧ (restartIdle s).peers = s.peers
      ∧ (restartIdle s).chA = s.chA ∧ (restartIdle s).chB = s.chB ∧ (restartIdle s).step = s.step
      ∧ (restartIdle s).supply = s.supply ∧ (restartIdle s).level = s.level ∧ (restartIdle s).square = s.square
      ∧ (restartIdle s).wind = s.wind ∧ (restartIdle s).stop = s.stop ∧ (restartIdle s).road = s.road
      ∧ (restartIdle s).watch = s.watch ∧ (restartIdle s).free = s.free ∧ (restartIdle s).pending = s.pending := by
  simp [restartIdle]

@[simp] theorem enterSpent_frame (k : PressKey) (held : Bool) (s : State) :
    (enterSpent k held s).node = s.node ∧ (enterSpent k held s).store = s.store ∧ (enterSpent k held s).cal = s.cal
      ∧ (enterSpent k held s).inp = s.inp ∧ (enterSpent k held s).bus = s.bus ∧ (enterSpent k held s).peers = s.peers
      ∧ (enterSpent k held s).chA = s.chA ∧ (enterSpent k held s).chB = s.chB ∧ (enterSpent k held s).step = s.step
      ∧ (enterSpent k held s).supply = s.supply ∧ (enterSpent k held s).level = s.level
      ∧ (enterSpent k held s).square = s.square ∧ (enterSpent k held s).wind = s.wind
      ∧ (enterSpent k held s).stop = s.stop ∧ (enterSpent k held s).road = s.road
      ∧ (enterSpent k held s).watch = s.watch ∧ (enterSpent k held s).free = s.free
      ∧ (enterSpent k held s).pending = s.pending := by
  simp [enterSpent]

@[simp] theorem refusePress_frame (reason : Reason) (chan : NChan) (panel : Nat) (o : Order) (detail : Half) (s :
    State) :
    (refusePress reason chan panel o detail s).node = s.node
      ∧ (refusePress reason chan panel o detail s).store = s.store
      ∧ (refusePress reason chan panel o detail s).cal = s.cal
      ∧ (refusePress reason chan panel o detail s).inp = s.inp
      ∧ (refusePress reason chan panel o detail s).peers = s.peers
      ∧ (refusePress reason chan panel o detail s).orders = s.orders
      ∧ (refusePress reason chan panel o detail s).chA = s.chA
      ∧ (refusePress reason chan panel o detail s).chB = s.chB
      ∧ (refusePress reason chan panel o detail s).step = s.step
      ∧ (refusePress reason chan panel o detail s).supply = s.supply
      ∧ (refusePress reason chan panel o detail s).level = s.level
      ∧ (refusePress reason chan panel o detail s).square = s.square
      ∧ (refusePress reason chan panel o detail s).wind = s.wind
      ∧ (refusePress reason chan panel o detail s).stop = s.stop
      ∧ (refusePress reason chan panel o detail s).road = s.road
      ∧ (refusePress reason chan panel o detail s).watch = s.watch
      ∧ (refusePress reason chan panel o detail s).free = s.free
      ∧ (refusePress reason chan panel o detail s).pending = s.pending := by
  simp [refusePress]

@[simp] theorem restartQuiet_frame (s : State) :
    (restartQuiet s).node = s.node ∧ (restartQuiet s).store = s.store ∧ (restartQuiet s).cal = s.cal
      ∧ (restartQuiet s).inp = s.inp ∧ (restartQuiet s).bus = s.bus ∧ (restartQuiet s).peers = s.peers
      ∧ (restartQuiet s).chA = s.chA ∧ (restartQuiet s).chB = s.chB ∧ (restartQuiet s).step = s.step
      ∧ (restartQuiet s).supply = s.supply ∧ (restartQuiet s).level = s.level ∧ (restartQuiet s).square = s.square
      ∧ (restartQuiet s).wind = s.wind ∧ (restartQuiet s).stop = s.stop ∧ (restartQuiet s).road = s.road
      ∧ (restartQuiet s).watch = s.watch ∧ (restartQuiet s).free = s.free ∧ (restartQuiet s).pending = s.pending := by
  simp [restartQuiet]

@[simp] theorem repeatPress_frame (p : Press) (heldRequest : Bool) (s : State) :
    (repeatPress p heldRequest s).node = s.node ∧ (repeatPress p heldRequest s).store = s.store
      ∧ (repeatPress p heldRequest s).cal = s.cal ∧ (repeatPress p heldRequest s).inp = s.inp
      ∧ (repeatPress p heldRequest s).bus = s.bus ∧ (repeatPress p heldRequest s).peers = s.peers
      ∧ (repeatPress p heldRequest s).chA = s.chA ∧ (repeatPress p heldRequest s).chB = s.chB
      ∧ (repeatPress p heldRequest s).step = s.step ∧ (repeatPress p heldRequest s).supply = s.supply
      ∧ (repeatPress p heldRequest s).level = s.level ∧ (repeatPress p heldRequest s).square = s.square
      ∧ (repeatPress p heldRequest s).wind = s.wind ∧ (repeatPress p heldRequest s).stop = s.stop
      ∧ (repeatPress p heldRequest s).road = s.road ∧ (repeatPress p heldRequest s).watch = s.watch
      ∧ (repeatPress p heldRequest s).free = s.free ∧ (repeatPress p heldRequest s).pending = s.pending := by
  unfold repeatPress; dsimp only; split <;> simp

@[simp] theorem conflict_frame (k : PressKey) (h : Hold) (s : State) :
    (conflict k h s).node = s.node ∧ (conflict k h s).store = s.store ∧ (conflict k h s).cal = s.cal
      ∧ (conflict k h s).inp = s.inp ∧ (conflict k h s).peers = s.peers ∧ (conflict k h s).watch = s.watch
      ∧ (conflict k h s).pending = s.pending := by
  simp [conflict]

@[simp] theorem acceptPress_frame (o : Order) (r : MotionReq) (s : State) :
    (acceptPress o r s).node = s.node ∧ (acceptPress o r s).store = s.store ∧ (acceptPress o r s).cal = s.cal
      ∧ (acceptPress o r s).inp = s.inp ∧ (acceptPress o r s).peers = s.peers ∧ (acceptPress o r s).watch = s.watch
      ∧ (acceptPress o r s).free = s.free ∧ (acceptPress o r s).pending = s.pending := by
  unfold acceptPress; dsimp only; (repeat' split) <;> simp

@[simp] theorem newPress_frame (o : Order) (r : MotionReq) (s : State) :
    (newPress o r s).node = s.node ∧ (newPress o r s).store = s.store ∧ (newPress o r s).cal = s.cal
      ∧ (newPress o r s).inp = s.inp ∧ (newPress o r s).peers = s.peers ∧ (newPress o r s).watch = s.watch
      ∧ (newPress o r s).pending = s.pending := by
  unfold newPress; dsimp only; (repeat' split) <;> simp

@[simp] theorem takePress_frame (o : Order) (r : MotionReq) (s : State) :
    (takePress o r s).node = s.node ∧ (takePress o r s).store = s.store ∧ (takePress o r s).cal = s.cal
      ∧ (takePress o r s).inp = s.inp ∧ (takePress o r s).peers = s.peers ∧ (takePress o r s).watch = s.watch
      ∧ (takePress o r s).pending = s.pending := by
  unfold takePress; dsimp only; split <;> simp

/-! ### Flags -/

@[simp] theorem passArisen_frame (isns : ChanId → Current) (p : ActiveFault → Bool) (s : State) :
    (passArisen isns p s).node = s.node ∧ (passArisen isns p s).store = s.store
      ∧ (passArisen isns p s).cal = s.cal ∧ (passArisen isns p s).inp = s.inp
      ∧ (passArisen isns p s).bus = s.bus ∧ (passArisen isns p s).peers = s.peers
      ∧ (passArisen isns p s).orders = s.orders ∧ (passArisen isns p s).chA = s.chA
      ∧ (passArisen isns p s).chB = s.chB ∧ (passArisen isns p s).step = s.step
      ∧ (passArisen isns p s).supply = s.supply ∧ (passArisen isns p s).level = s.level
      ∧ (passArisen isns p s).square = s.square ∧ (passArisen isns p s).wind = s.wind
      ∧ (passArisen isns p s).road = s.road ∧ (passArisen isns p s).watch = s.watch
      ∧ (passArisen isns p s).free = s.free ∧ (passArisen isns p s).pending = s.pending := by
  simp [passArisen]

/-! ### PlanUnit -/

@[simp] theorem setPart_frame (p : Part) (s : State) :
    (setPart p s).node = s.node ∧ (setPart p s).store = s.store ∧ (setPart p s).cal = s.cal
      ∧ (setPart p s).inp = s.inp ∧ (setPart p s).bus = s.bus ∧ (setPart p s).peers = s.peers
      ∧ (setPart p s).chA = s.chA ∧ (setPart p s).chB = s.chB ∧ (setPart p s).step = s.step
      ∧ (setPart p s).supply = s.supply ∧ (setPart p s).level = s.level ∧ (setPart p s).square = s.square
      ∧ (setPart p s).wind = s.wind ∧ (setPart p s).stop = s.stop ∧ (setPart p s).road = s.road
      ∧ (setPart p s).watch = s.watch ∧ (setPart p s).free = s.free ∧ (setPart p s).pending = s.pending := by
  simp [setPart]

@[simp] theorem failPart_frame (reason : Reason) (c : Cursor) (t : Task) (s : State) :
    (failPart reason c t s).node = s.node ∧ (failPart reason c t s).store = s.store
      ∧ (failPart reason c t s).cal = s.cal ∧ (failPart reason c t s).inp = s.inp
      ∧ (failPart reason c t s).peers = s.peers ∧ (failPart reason c t s).chA = s.chA
      ∧ (failPart reason c t s).chB = s.chB ∧ (failPart reason c t s).step = s.step
      ∧ (failPart reason c t s).supply = s.supply ∧ (failPart reason c t s).level = s.level
      ∧ (failPart reason c t s).square = s.square ∧ (failPart reason c t s).wind = s.wind
      ∧ (failPart reason c t s).stop = s.stop ∧ (failPart reason c t s).road = s.road
      ∧ (failPart reason c t s).watch = s.watch ∧ (failPart reason c t s).free = s.free
      ∧ (failPart reason c t s).pending = s.pending := by
  simp [failPart]

@[simp] theorem barPart_frame (c : Cursor) (t : Task) (s : State) :
    (barPart c t s).node = s.node ∧ (barPart c t s).store = s.store ∧ (barPart c t s).cal = s.cal
      ∧ (barPart c t s).inp = s.inp ∧ (barPart c t s).peers = s.peers ∧ (barPart c t s).chA = s.chA
      ∧ (barPart c t s).chB = s.chB ∧ (barPart c t s).step = s.step ∧ (barPart c t s).supply = s.supply
      ∧ (barPart c t s).level = s.level ∧ (barPart c t s).square = s.square ∧ (barPart c t s).wind = s.wind
      ∧ (barPart c t s).stop = s.stop ∧ (barPart c t s).road = s.road ∧ (barPart c t s).watch = s.watch
      ∧ (barPart c t s).free = s.free ∧ (barPart c t s).pending = s.pending := by
  unfold barPart; split <;> simp

@[simp] theorem tryPart_frame (s : State) :
    (tryPart s).node = s.node ∧ (tryPart s).store = s.store ∧ (tryPart s).cal = s.cal ∧ (tryPart s).inp = s.inp
      ∧ (tryPart s).peers = s.peers ∧ (tryPart s).watch = s.watch ∧ (tryPart s).free = s.free
      ∧ (tryPart s).pending = s.pending := by
  unfold tryPart; dsimp only; (repeat' split) <;> simp

@[simp] theorem beginStep_frame (s : State) :
    (beginStep s).node = s.node ∧ (beginStep s).store = s.store ∧ (beginStep s).cal = s.cal
      ∧ (beginStep s).inp = s.inp ∧ (beginStep s).peers = s.peers ∧ (beginStep s).watch = s.watch
      ∧ (beginStep s).free = s.free ∧ (beginStep s).pending = s.pending := by
  unfold beginStep; (repeat' split) <;> simp_all

@[simp] theorem advance_frame (s : State) :
    (advance s).node = s.node ∧ (advance s).store = s.store ∧ (advance s).cal = s.cal ∧ (advance s).inp = s.inp
      ∧ (advance s).peers = s.peers ∧ (advance s).watch = s.watch ∧ (advance s).free = s.free
      ∧ (advance s).pending = s.pending := by
  unfold advance; (repeat' split) <;> simp_all

@[simp] theorem haltPart_frame (s : State) :
    (haltPart s).node = s.node ∧ (haltPart s).store = s.store ∧ (haltPart s).cal = s.cal ∧ (haltPart s).inp = s.inp
      ∧ (haltPart s).peers = s.peers ∧ (haltPart s).stop = s.stop ∧ (haltPart s).watch = s.watch
      ∧ (haltPart s).free = s.free ∧ (haltPart s).pending = s.pending := by
  unfold haltPart; split <;> simp

@[simp] theorem stepFail_frame (s : State) :
    (stepFail s).node = s.node ∧ (stepFail s).store = s.store ∧ (stepFail s).cal = s.cal ∧ (stepFail s).inp = s.inp
      ∧ (stepFail s).peers = s.peers ∧ (stepFail s).watch = s.watch ∧ (stepFail s).free = s.free
      ∧ (stepFail s).pending = s.pending := by
  unfold stepFail; dsimp only; (repeat' split) <;> simp

@[simp] theorem retest_frame (s : State) :
    (retest s).node = s.node ∧ (retest s).store = s.store ∧ (retest s).cal = s.cal ∧ (retest s).inp = s.inp
      ∧ (retest s).peers = s.peers ∧ (retest s).watch = s.watch ∧ (retest s).free = s.free
      ∧ (retest s).pending = s.pending := by
  unfold retest; split <;> simp

@[simp] theorem planLoop_frame (n : Nat) (s : State) :
    (planLoop n s).node = s.node ∧ (planLoop n s).store = s.store ∧ (planLoop n s).cal = s.cal
      ∧ (planLoop n s).inp = s.inp ∧ (planLoop n s).peers = s.peers ∧ (planLoop n s).watch = s.watch
      ∧ (planLoop n s).free = s.free ∧ (planLoop n s).pending = s.pending := by
  induction n generalizing s with | zero => simp [planLoop] | succ n ih => unfold planLoop; dsimp only; split <;> (try split) <;> simp [*]

end Sys2Proof.Machine
end

