-- ==== Sys2Proof/Laws/ModeFrames.lean ====
section
/-! SUPPORT. What the mode operations of Machine/Modes.lean leave as it was: one lemma for each, whose parts rewrite. -/

namespace Sys2Proof.Machine

/-! ### Modes -/

@[simp] theorem closeCoasts_frame (s : State) :
    (closeCoasts s).node = s.node ∧ (closeCoasts s).store = s.store ∧ (closeCoasts s).cal = s.cal
      ∧ (closeCoasts s).inp = s.inp ∧ (closeCoasts s).bus = s.bus ∧ (closeCoasts s).peers = s.peers
      ∧ (closeCoasts s).orders = s.orders ∧ (closeCoasts s).step = s.step ∧ (closeCoasts s).supply = s.supply
      ∧ (closeCoasts s).level = s.level ∧ (closeCoasts s).square = s.square ∧ (closeCoasts s).wind = s.wind
      ∧ (closeCoasts s).stop = s.stop ∧ (closeCoasts s).road = s.road ∧ (closeCoasts s).watch = s.watch
      ∧ (closeCoasts s).free = s.free ∧ (closeCoasts s).pending = s.pending := by
  simp [closeCoasts]

@[simp] theorem enterWatch_frame (s : State) :
    (enterWatch s).store = s.store ∧ (enterWatch s).cal = s.cal ∧ (enterWatch s).inp = s.inp
      ∧ (enterWatch s).peers = s.peers ∧ (enterWatch s).step = s.step ∧ (enterWatch s).supply = s.supply
      ∧ (enterWatch s).square = s.square ∧ (enterWatch s).stop = s.stop ∧ (enterWatch s).road = s.road
      ∧ (enterWatch s).free = s.free ∧ (enterWatch s).pending = s.pending := by
  simp [enterWatch]

@[simp] theorem idleTest_frame (s : State) :
    (idleTest s).store = s.store ∧ (idleTest s).cal = s.cal ∧ (idleTest s).inp = s.inp ∧ (idleTest s).peers = s.peers
      ∧ (idleTest s).step = s.step ∧ (idleTest s).supply = s.supply ∧ (idleTest s).square = s.square
      ∧ (idleTest s).stop = s.stop ∧ (idleTest s).road = s.road ∧ (idleTest s).free = s.free
      ∧ (idleTest s).pending = s.pending := by
  unfold idleTest; split <;> simp

@[simp] theorem conclude_frame (s : State) :
    (conclude s).store = s.store ∧ (conclude s).cal = s.cal ∧ (conclude s).inp = s.inp ∧ (conclude s).peers = s.peers
      ∧ (conclude s).free = s.free ∧ (conclude s).pending = s.pending := by
  unfold conclude; split <;> simp

@[simp] theorem reportJacks_frame (s : State) :
    (reportJacks s).node = s.node ∧ (reportJacks s).store = s.store ∧ (reportJacks s).cal = s.cal
      ∧ (reportJacks s).inp = s.inp ∧ (reportJacks s).peers = s.peers ∧ (reportJacks s).watch = s.watch
      ∧ (reportJacks s).free = s.free ∧ (reportJacks s).pending = s.pending := by
  unfold reportJacks; split <;> simp

@[simp] theorem reportOthers_frame (s : State) :
    (reportOthers s).node = s.node ∧ (reportOthers s).store = s.store ∧ (reportOthers s).cal = s.cal
      ∧ (reportOthers s).inp = s.inp ∧ (reportOthers s).bus = s.bus ∧ (reportOthers s).peers = s.peers
      ∧ (reportOthers s).orders = s.orders ∧ (reportOthers s).chA = s.chA ∧ (reportOthers s).chB = s.chB
      ∧ (reportOthers s).step = s.step ∧ (reportOthers s).supply = s.supply ∧ (reportOthers s).square = s.square
      ∧ (reportOthers s).wind = s.wind ∧ (reportOthers s).stop = s.stop ∧ (reportOthers s).road = s.road
      ∧ (reportOthers s).watch = s.watch ∧ (reportOthers s).free = s.free ∧ (reportOthers s).pending = s.pending := by
  unfold reportOthers; split <;> simp

@[simp] theorem peerReport_frame (station : Nat) (s : State) :
    (peerReport station s).store = s.store ∧ (peerReport station s).cal = s.cal ∧ (peerReport station s).inp = s.inp
      ∧ (peerReport station s).peers = s.peers ∧ (peerReport station s).free = s.free
      ∧ (peerReport station s).pending = s.pending := by
  unfold peerReport; split <;> simp

@[simp] theorem drawReport_frame (s : State) :
    (drawReport s).store = s.store ∧ (drawReport s).cal = s.cal ∧ (drawReport s).inp = s.inp
      ∧ (drawReport s).peers = s.peers ∧ (drawReport s).free = s.free ∧ (drawReport s).pending = s.pending := by
  simp [drawReport]

@[simp] theorem enterLockout_frame (cause : LockoutCause) (s : State) :
    (enterLockout cause s).store = s.store ∧ (enterLockout cause s).cal = s.cal ∧ (enterLockout cause s).inp = s.inp
      ∧ (enterLockout cause s).peers = s.peers ∧ (enterLockout cause s).orders = s.orders
      ∧ (enterLockout cause s).level = s.level ∧ (enterLockout cause s).square = s.square
      ∧ (enterLockout cause s).wind = s.wind ∧ (enterLockout cause s).road = s.road
      ∧ (enterLockout cause s).free = s.free ∧ (enterLockout cause s).pending = s.pending := by
  simp [enterLockout]

@[simp] theorem readDroop_frame (s : State) :
    (readDroop s).node = s.node ∧ (readDroop s).store = s.store ∧ (readDroop s).cal = s.cal
      ∧ (readDroop s).inp = s.inp ∧ (readDroop s).bus = s.bus ∧ (readDroop s).peers = s.peers
      ∧ (readDroop s).orders = s.orders ∧ (readDroop s).chA = s.chA ∧ (readDroop s).chB = s.chB
      ∧ (readDroop s).step = s.step ∧ (readDroop s).level = s.level ∧ (readDroop s).square = s.square
      ∧ (readDroop s).wind = s.wind ∧ (readDroop s).stop = s.stop ∧ (readDroop s).road = s.road
      ∧ (readDroop s).watch = s.watch ∧ (readDroop s).free = s.free ∧ (readDroop s).pending = s.pending := by
  simp [readDroop]

@[simp] theorem sensorFault_frame (detail : Half) (s : State) :
    (sensorFault detail s).node = s.node ∧ (sensorFault detail s).store = s.store ∧ (sensorFault detail s).cal = s.cal
      ∧ (sensorFault detail s).inp = s.inp ∧ (sensorFault detail s).peers = s.peers
      ∧ (sensorFault detail s).orders = s.orders ∧ (sensorFault detail s).chA = s.chA
      ∧ (sensorFault detail s).chB = s.chB ∧ (sensorFault detail s).step = s.step
      ∧ (sensorFault detail s).supply = s.supply ∧ (sensorFault detail s).level = s.level
      ∧ (sensorFault detail s).square = s.square ∧ (sensorFault detail s).wind = s.wind
      ∧ (sensorFault detail s).road = s.road ∧ (sensorFault detail s).watch = s.watch
      ∧ (sensorFault detail s).free = s.free ∧ (sensorFault detail s).pending = s.pending := by
  simp [sensorFault]

@[simp] theorem readSwitches_frame (s : State) (ch : ChanId) :
    (readSwitches s ch).node = s.node ∧ (readSwitches s ch).store = s.store ∧ (readSwitches s ch).cal = s.cal
      ∧ (readSwitches s ch).inp = s.inp ∧ (readSwitches s ch).bus = s.bus ∧ (readSwitches s ch).peers = s.peers
      ∧ (readSwitches s ch).orders = s.orders ∧ (readSwitches s ch).step = s.step
      ∧ (readSwitches s ch).supply = s.supply ∧ (readSwitches s ch).square = s.square
      ∧ (readSwitches s ch).wind = s.wind ∧ (readSwitches s ch).watch = s.watch ∧ (readSwitches s ch).free = s.free
      ∧ (readSwitches s ch).pending = s.pending := by
  unfold readSwitches; dsimp only; (repeat' split) <;> simp

@[simp] theorem readFoot_frame (s : State) :
    (readFoot s).node = s.node ∧ (readFoot s).store = s.store ∧ (readFoot s).cal = s.cal ∧ (readFoot s).inp = s.inp
      ∧ (readFoot s).peers = s.peers ∧ (readFoot s).watch = s.watch ∧ (readFoot s).free = s.free
      ∧ (readFoot s).pending = s.pending := by
  unfold readFoot; dsimp only; (repeat' split) <;> simp

@[simp] theorem readStop_frame (s : State) :
    (readStop s).node = s.node ∧ (readStop s).store = s.store ∧ (readStop s).cal = s.cal ∧ (readStop s).inp = s.inp
      ∧ (readStop s).peers = s.peers ∧ (readStop s).watch = s.watch ∧ (readStop s).free = s.free
      ∧ (readStop s).pending = s.pending := by
  unfold readStop; split <;> simp

@[simp] theorem readPark_frame (s : State) :
    (readPark s).node = s.node ∧ (readPark s).store = s.store ∧ (readPark s).cal = s.cal ∧ (readPark s).inp = s.inp
      ∧ (readPark s).peers = s.peers ∧ (readPark s).watch = s.watch ∧ (readPark s).free = s.free
      ∧ (readPark s).pending = s.pending := by
  unfold readPark; split <;> simp

@[simp] theorem checkSense_frame (s : State) (ch : ChanId) :
    (checkSense s ch).node = s.node ∧ (checkSense s ch).store = s.store ∧ (checkSense s ch).cal = s.cal
      ∧ (checkSense s ch).inp = s.inp ∧ (checkSense s ch).peers = s.peers ∧ (checkSense s ch).orders = s.orders
      ∧ (checkSense s ch).chA = s.chA ∧ (checkSense s ch).chB = s.chB ∧ (checkSense s ch).step = s.step
      ∧ (checkSense s ch).supply = s.supply ∧ (checkSense s ch).level = s.level ∧ (checkSense s ch).square = s.square
      ∧ (checkSense s ch).wind = s.wind ∧ (checkSense s ch).road = s.road ∧ (checkSense s ch).watch = s.watch
      ∧ (checkSense s ch).free = s.free ∧ (checkSense s ch).pending = s.pending := by
  unfold checkSense; split <;> simp

@[simp] theorem checkSenses_frame (s : State) :
    (checkSenses s).node = s.node ∧ (checkSenses s).store = s.store ∧ (checkSenses s).cal = s.cal
      ∧ (checkSenses s).inp = s.inp ∧ (checkSenses s).peers = s.peers ∧ (checkSenses s).orders = s.orders
      ∧ (checkSenses s).chA = s.chA ∧ (checkSenses s).chB = s.chB ∧ (checkSenses s).step = s.step
      ∧ (checkSenses s).supply = s.supply ∧ (checkSenses s).level = s.level ∧ (checkSenses s).square = s.square
      ∧ (checkSenses s).wind = s.wind ∧ (checkSenses s).road = s.road ∧ (checkSenses s).watch = s.watch
      ∧ (checkSenses s).free = s.free ∧ (checkSenses s).pending = s.pending := by
  unfold checkSenses; rcases State.chanIds_cases s with h | h <;> simp [h] <;> split <;> simp

@[simp] theorem checkPair_frame (s : State) (ch : ChanId) :
    (checkPair s ch).node = s.node ∧ (checkPair s ch).store = s.store ∧ (checkPair s ch).cal = s.cal
      ∧ (checkPair s ch).inp = s.inp ∧ (checkPair s ch).peers = s.peers ∧ (checkPair s ch).orders = s.orders
      ∧ (checkPair s ch).chA = s.chA ∧ (checkPair s ch).chB = s.chB ∧ (checkPair s ch).step = s.step
      ∧ (checkPair s ch).supply = s.supply ∧ (checkPair s ch).level = s.level ∧ (checkPair s ch).square = s.square
      ∧ (checkPair s ch).wind = s.wind ∧ (checkPair s ch).road = s.road ∧ (checkPair s ch).watch = s.watch
      ∧ (checkPair s ch).free = s.free ∧ (checkPair s ch).pending = s.pending := by
  unfold checkPair; split <;> simp

@[simp] theorem checkPairs_frame (s : State) :
    (checkPairs s).node = s.node ∧ (checkPairs s).store = s.store ∧ (checkPairs s).cal = s.cal
      ∧ (checkPairs s).inp = s.inp ∧ (checkPairs s).peers = s.peers ∧ (checkPairs s).orders = s.orders
      ∧ (checkPairs s).chA = s.chA ∧ (checkPairs s).chB = s.chB ∧ (checkPairs s).step = s.step
      ∧ (checkPairs s).supply = s.supply ∧ (checkPairs s).level = s.level ∧ (checkPairs s).square = s.square
      ∧ (checkPairs s).wind = s.wind ∧ (checkPairs s).road = s.road ∧ (checkPairs s).watch = s.watch
      ∧ (checkPairs s).free = s.free ∧ (checkPairs s).pending = s.pending := by
  unfold checkPairs; rcases State.chanIds_cases s with h | h <;> simp [h] <;> split <;> simp

@[simp] theorem checkTemp_frame (s : State) :
    (checkTemp s).store = s.store ∧ (checkTemp s).cal = s.cal ∧ (checkTemp s).inp = s.inp
      ∧ (checkTemp s).peers = s.peers ∧ (checkTemp s).orders = s.orders ∧ (checkTemp s).level = s.level
      ∧ (checkTemp s).square = s.square ∧ (checkTemp s).wind = s.wind ∧ (checkTemp s).road = s.road
      ∧ (checkTemp s).free = s.free ∧ (checkTemp s).pending = s.pending := by
  unfold checkTemp; dsimp only; (repeat' split) <;> simp

@[simp] theorem listenReadings_frame (s : State) :
    (listenReadings s).store = s.store ∧ (listenReadings s).cal = s.cal ∧ (listenReadings s).inp = s.inp
      ∧ (listenReadings s).peers = s.peers ∧ (listenReadings s).free = s.free ∧ (listenReadings s).pending = s.pending := by
  unfold listenReadings State.chanIds; split <;> simp

@[simp] theorem startTiltCheck_frame (s : State) :
    (startTiltCheck s).node = s.node ∧ (startTiltCheck s).store = s.store ∧ (startTiltCheck s).cal = s.cal
      ∧ (startTiltCheck s).inp = s.inp ∧ (startTiltCheck s).bus = s.bus ∧ (startTiltCheck s).peers = s.peers
      ∧ (startTiltCheck s).orders = s.orders ∧ (startTiltCheck s).chA = s.chA ∧ (startTiltCheck s).chB = s.chB
      ∧ (startTiltCheck s).step = s.step ∧ (startTiltCheck s).supply = s.supply ∧ (startTiltCheck s).square = s.square
      ∧ (startTiltCheck s).wind = s.wind ∧ (startTiltCheck s).stop = s.stop ∧ (startTiltCheck s).road = s.road
      ∧ (startTiltCheck s).watch = s.watch ∧ (startTiltCheck s).free = s.free ∧ (startTiltCheck s).pending = s.pending := by
  unfold startTiltCheck; split <;> simp

@[simp] theorem enterListen_frame (cause : WakeCause) (inp : Inputs) (s : State) :
    (enterListen cause inp s).store = s.store ∧ (enterListen cause inp s).cal = s.cal
      ∧ (enterListen cause inp s).peers = s.peers ∧ (enterListen cause inp s).free = s.free
      ∧ (enterListen cause inp s).pending = s.pending := by
  unfold enterListen; dsimp only; split <;> simp

@[simp] theorem pairAtRun_frame (s : State) :
    (pairAtRun s).node = s.node ∧ (pairAtRun s).store = s.store ∧ (pairAtRun s).cal = s.cal
      ∧ (pairAtRun s).inp = s.inp ∧ (pairAtRun s).peers = s.peers ∧ (pairAtRun s).orders = s.orders
      ∧ (pairAtRun s).chA = s.chA ∧ (pairAtRun s).chB = s.chB ∧ (pairAtRun s).step = s.step
      ∧ (pairAtRun s).supply = s.supply ∧ (pairAtRun s).level = s.level ∧ (pairAtRun s).square = s.square
      ∧ (pairAtRun s).wind = s.wind ∧ (pairAtRun s).road = s.road ∧ (pairAtRun s).watch = s.watch
      ∧ (pairAtRun s).free = s.free ∧ (pairAtRun s).pending = s.pending := by
  unfold pairAtRun; split <;> simp

@[simp] theorem trimAtRun_frame (woke : WakeCause) (s : State) :
    (trimAtRun woke s).node = s.node ∧ (trimAtRun woke s).store = s.store ∧ (trimAtRun woke s).cal = s.cal
      ∧ (trimAtRun woke s).inp = s.inp ∧ (trimAtRun woke s).peers = s.peers ∧ (trimAtRun woke s).watch = s.watch
      ∧ (trimAtRun woke s).free = s.free ∧ (trimAtRun woke s).pending = s.pending := by
  unfold trimAtRun; (repeat' split) <;> simp_all

@[simp] theorem enterRun_frame (s : State) :
    (enterRun s).store = s.store ∧ (enterRun s).cal = s.cal ∧ (enterRun s).inp = s.inp ∧ (enterRun s).peers = s.peers
      ∧ (enterRun s).free = s.free ∧ (enterRun s).pending = s.pending := by
  simp [enterRun]

@[simp] theorem stopProgramming_frame (s : State) :
    (stopProgramming s).node = s.node ∧ (stopProgramming s).cal = s.cal ∧ (stopProgramming s).inp = s.inp
      ∧ (stopProgramming s).bus = s.bus ∧ (stopProgramming s).peers = s.peers ∧ (stopProgramming s).orders = s.orders
      ∧ (stopProgramming s).chA = s.chA ∧ (stopProgramming s).chB = s.chB ∧ (stopProgramming s).step = s.step
      ∧ (stopProgramming s).supply = s.supply ∧ (stopProgramming s).level = s.level
      ∧ (stopProgramming s).square = s.square ∧ (stopProgramming s).wind = s.wind ∧ (stopProgramming s).stop = s.stop
      ∧ (stopProgramming s).road = s.road ∧ (stopProgramming s).watch = s.watch
      ∧ (stopProgramming s).pending = s.pending := by
  unfold stopProgramming; split <;> simp

@[simp] theorem freshBlocks_frame (s : State) :
    (freshBlocks s).node = s.node ∧ (freshBlocks s).store = s.store ∧ (freshBlocks s).cal = s.cal
      ∧ (freshBlocks s).inp = s.inp ∧ (freshBlocks s).free = s.free ∧ (freshBlocks s).pending = s.pending := by
  simp [freshBlocks]

@[simp] theorem holdReset_frame (s : State) :
    (holdReset s).cal = s.cal ∧ (holdReset s).inp = s.inp ∧ (holdReset s).pending = s.pending := by
  simp [holdReset]

@[simp] theorem lockedDecision_frame (inp : Inputs) (s : State) :
    (lockedDecision inp s).store = s.store ∧ (lockedDecision inp s).peers = s.peers
      ∧ (lockedDecision inp s).free = s.free ∧ (lockedDecision inp s).pending = s.pending := by
  unfold lockedDecision; dsimp only; (repeat' split) <;> simp

@[simp] theorem enterStart_frame (keep : Bool) (inp : Inputs) (s : State) :
    (enterStart keep inp s).store = s.store ∧ (enterStart keep inp s).free = s.free
      ∧ (enterStart keep inp s).pending = s.pending := by
  unfold enterStart; dsimp only; (repeat' split) <;> simp

@[simp] theorem blankOrders_frame (s : State) :
    (blankOrders s).node = s.node ∧ (blankOrders s).store = s.store ∧ (blankOrders s).cal = s.cal
      ∧ (blankOrders s).inp = s.inp ∧ (blankOrders s).bus = s.bus ∧ (blankOrders s).peers = s.peers
      ∧ (blankOrders s).orders = s.orders ∧ (blankOrders s).step = s.step ∧ (blankOrders s).supply = s.supply
      ∧ (blankOrders s).level = s.level ∧ (blankOrders s).square = s.square ∧ (blankOrders s).wind = s.wind
      ∧ (blankOrders s).stop = s.stop ∧ (blankOrders s).road = s.road ∧ (blankOrders s).watch = s.watch
      ∧ (blankOrders s).free = s.free ∧ (blankOrders s).pending = s.pending := by
  simp [blankOrders]

@[simp] theorem levelTimers_frame (s : State) :
    (levelTimers s).node = s.node ∧ (levelTimers s).store = s.store ∧ (levelTimers s).cal = s.cal
      ∧ (levelTimers s).inp = s.inp ∧ (levelTimers s).bus = s.bus ∧ (levelTimers s).peers = s.peers
      ∧ (levelTimers s).orders = s.orders ∧ (levelTimers s).chA = s.chA ∧ (levelTimers s).chB = s.chB
      ∧ (levelTimers s).step = s.step ∧ (levelTimers s).supply = s.supply ∧ (levelTimers s).square = s.square
      ∧ (levelTimers s).wind = s.wind ∧ (levelTimers s).stop = s.stop ∧ (levelTimers s).road = s.road
      ∧ (levelTimers s).watch = s.watch ∧ (levelTimers s).free = s.free ∧ (levelTimers s).pending = s.pending := by
  simp [levelTimers]

@[simp] theorem emptyPresses_frame (s : State) :
    (emptyPresses s).node = s.node ∧ (emptyPresses s).store = s.store ∧ (emptyPresses s).cal = s.cal
      ∧ (emptyPresses s).inp = s.inp ∧ (emptyPresses s).bus = s.bus ∧ (emptyPresses s).peers = s.peers
      ∧ (emptyPresses s).chA = s.chA ∧ (emptyPresses s).chB = s.chB ∧ (emptyPresses s).step = s.step
      ∧ (emptyPresses s).supply = s.supply ∧ (emptyPresses s).level = s.level ∧ (emptyPresses s).square = s.square
      ∧ (emptyPresses s).wind = s.wind ∧ (emptyPresses s).stop = s.stop ∧ (emptyPresses s).road = s.road
      ∧ (emptyPresses s).watch = s.watch ∧ (emptyPresses s).free = s.free ∧ (emptyPresses s).pending = s.pending := by
  simp [emptyPresses]

@[simp] theorem emptyTable_frame (s : State) :
    (emptyTable s).node = s.node ∧ (emptyTable s).store = s.store ∧ (emptyTable s).cal = s.cal
      ∧ (emptyTable s).inp = s.inp ∧ (emptyTable s).watch = s.watch ∧ (emptyTable s).free = s.free
      ∧ (emptyTable s).pending = s.pending := by
  simp [emptyTable]

@[simp] theorem dropCursor_frame (s : State) :
    (dropCursor s).node = s.node ∧ (dropCursor s).store = s.store ∧ (dropCursor s).cal = s.cal
      ∧ (dropCursor s).inp = s.inp ∧ (dropCursor s).bus = s.bus ∧ (dropCursor s).peers = s.peers
      ∧ (dropCursor s).chA = s.chA ∧ (dropCursor s).chB = s.chB ∧ (dropCursor s).step = s.step
      ∧ (dropCursor s).supply = s.supply ∧ (dropCursor s).level = s.level ∧ (dropCursor s).square = s.square
      ∧ (dropCursor s).wind = s.wind ∧ (dropCursor s).stop = s.stop ∧ (dropCursor s).road = s.road
      ∧ (dropCursor s).watch = s.watch ∧ (dropCursor s).free = s.free ∧ (dropCursor s).pending = s.pending := by
  unfold dropCursor; split <;> simp

@[simp] theorem busOffActive_frame (s : State) :
    (busOffActive s).store = s.store ∧ (busOffActive s).cal = s.cal ∧ (busOffActive s).inp = s.inp
      ∧ (busOffActive s).peers = s.peers ∧ (busOffActive s).stop = s.stop ∧ (busOffActive s).watch = s.watch
      ∧ (busOffActive s).free = s.free ∧ (busOffActive s).pending = s.pending := by
  simp [busOffActive]

@[simp] theorem goOff_frame (s : State) :
    (goOff s).store = s.store ∧ (goOff s).cal = s.cal ∧ (goOff s).inp = s.inp ∧ (goOff s).peers = s.peers
      ∧ (goOff s).stop = s.stop ∧ (goOff s).watch = s.watch ∧ (goOff s).free = s.free ∧ (goOff s).pending = s.pending := by
  unfold goOff; split <;> simp

@[simp] theorem rejoinListen_frame (inp : Inputs) (s : State) :
    (rejoinListen inp s).store = s.store ∧ (rejoinListen inp s).cal = s.cal ∧ (rejoinListen inp s).free = s.free
      ∧ (rejoinListen inp s).pending = s.pending := by
  simp [rejoinListen]

@[simp] theorem acceptRestart_frame (inp : Inputs) (s : State) :
    (acceptRestart inp s).store = s.store ∧ (acceptRestart inp s).cal = s.cal ∧ (acceptRestart inp s).free = s.free
      ∧ (acceptRestart inp s).pending = s.pending := by
  simp [acceptRestart]

@[simp] theorem wakeWind_frame (cause : WakeCause) (pollWind : Nat) (s : State) :
    (wakeWind cause pollWind s).node = s.node ∧ (wakeWind cause pollWind s).store = s.store
      ∧ (wakeWind cause pollWind s).cal = s.cal ∧ (wakeWind cause pollWind s).inp = s.inp
      ∧ (wakeWind cause pollWind s).bus = s.bus ∧ (wakeWind cause pollWind s).peers = s.peers
      ∧ (wakeWind cause pollWind s).orders = s.orders ∧ (wakeWind cause pollWind s).chA = s.chA
      ∧ (wakeWind cause pollWind s).chB = s.chB ∧ (wakeWind cause pollWind s).step = s.step
      ∧ (wakeWind cause pollWind s).supply = s.supply ∧ (wakeWind cause pollWind s).level = s.level
      ∧ (wakeWind cause pollWind s).square = s.square ∧ (wakeWind cause pollWind s).stop = s.stop
      ∧ (wakeWind cause pollWind s).road = s.road ∧ (wakeWind cause pollWind s).watch = s.watch
      ∧ (wakeWind cause pollWind s).free = s.free ∧ (wakeWind cause pollWind s).pending = s.pending := by
  unfold wakeWind; split <;> simp

@[simp] theorem wake_frame (cause : WakeCause) (pollWind : Nat) (inp : Inputs) (s : State) :
    (wake cause pollWind inp s).store = s.store ∧ (wake cause pollWind inp s).cal = s.cal
      ∧ (wake cause pollWind inp s).free = s.free ∧ (wake cause pollWind inp s).pending = s.pending := by
  simp [wake]

@[simp] theorem receivedWhole_frame (s : State) :
    (receivedWhole s).node = s.node ∧ (receivedWhole s).store = s.store ∧ (receivedWhole s).cal = s.cal
      ∧ (receivedWhole s).inp = s.inp ∧ (receivedWhole s).peers = s.peers ∧ (receivedWhole s).orders = s.orders
      ∧ (receivedWhole s).chA = s.chA ∧ (receivedWhole s).chB = s.chB ∧ (receivedWhole s).step = s.step
      ∧ (receivedWhole s).supply = s.supply ∧ (receivedWhole s).level = s.level ∧ (receivedWhole s).square = s.square
      ∧ (receivedWhole s).wind = s.wind ∧ (receivedWhole s).stop = s.stop ∧ (receivedWhole s).road = s.road
      ∧ (receivedWhole s).watch = s.watch ∧ (receivedWhole s).free = s.free ∧ (receivedWhole s).pending = s.pending := by
  simp [receivedWhole]

end Sys2Proof.Machine
end

