-- ==== Sys2Proof/Laws/CommandFrames.lean ====
section
/-! SUPPORT. What the operations that single commands are made of leave as it was: one lemma for each, whose parts rewrite. -/

namespace Sys2Proof.Machine

/-! ### Power -/

@[simp] theorem takeRestart_frame (source : Nat) (target : Byte) (inp : Inputs) (s : State) :
    (takeRestart source target inp s).store = s.store ∧ (takeRestart source target inp s).cal = s.cal
      ∧ (takeRestart source target inp s).pending = s.pending := by
  unfold takeRestart; (repeat' split) <;> simp_all

@[simp] theorem takeQuery_frame (target : Byte) (s : State) :
    (takeQuery target s).node = s.node ∧ (takeQuery target s).store = s.store ∧ (takeQuery target s).cal = s.cal
      ∧ (takeQuery target s).inp = s.inp ∧ (takeQuery target s).peers = s.peers
      ∧ (takeQuery target s).orders = s.orders ∧ (takeQuery target s).chA = s.chA ∧ (takeQuery target s).chB = s.chB
      ∧ (takeQuery target s).step = s.step ∧ (takeQuery target s).supply = s.supply
      ∧ (takeQuery target s).level = s.level ∧ (takeQuery target s).square = s.square
      ∧ (takeQuery target s).wind = s.wind ∧ (takeQuery target s).stop = s.stop ∧ (takeQuery target s).road = s.road
      ∧ (takeQuery target s).watch = s.watch ∧ (takeQuery target s).free = s.free
      ∧ (takeQuery target s).pending = s.pending := by
  unfold takeQuery; split <;> simp

/-! ### Calibration -/

@[simp] theorem refuseCal_frame (reason : Reason) (source : Nat) (detail : Half) (s : State) :
    (refuseCal reason source detail s).node = s.node ∧ (refuseCal reason source detail s).store = s.store
      ∧ (refuseCal reason source detail s).cal = s.cal ∧ (refuseCal reason source detail s).inp = s.inp
      ∧ (refuseCal reason source detail s).peers = s.peers ∧ (refuseCal reason source detail s).orders = s.orders
      ∧ (refuseCal reason source detail s).chA = s.chA ∧ (refuseCal reason source detail s).chB = s.chB
      ∧ (refuseCal reason source detail s).step = s.step ∧ (refuseCal reason source detail s).supply = s.supply
      ∧ (refuseCal reason source detail s).level = s.level ∧ (refuseCal reason source detail s).square = s.square
      ∧ (refuseCal reason source detail s).wind = s.wind ∧ (refuseCal reason source detail s).stop = s.stop
      ∧ (refuseCal reason source detail s).road = s.road ∧ (refuseCal reason source detail s).watch = s.watch
      ∧ (refuseCal reason source detail s).free = s.free ∧ (refuseCal reason source detail s).pending = s.pending := by
  simp [refuseCal]

@[simp] theorem setupWrite_frame (source : Nat) (w : CalWrite) (s : State) :
    (setupWrite source w s).node = s.node ∧ (setupWrite source w s).cal = s.cal ∧ (setupWrite source w s).inp = s.inp
      ∧ (setupWrite source w s).peers = s.peers ∧ (setupWrite source w s).orders = s.orders
      ∧ (setupWrite source w s).chA = s.chA ∧ (setupWrite source w s).chB = s.chB
      ∧ (setupWrite source w s).step = s.step ∧ (setupWrite source w s).supply = s.supply
      ∧ (setupWrite source w s).level = s.level ∧ (setupWrite source w s).square = s.square
      ∧ (setupWrite source w s).wind = s.wind ∧ (setupWrite source w s).stop = s.stop
      ∧ (setupWrite source w s).road = s.road ∧ (setupWrite source w s).watch = s.watch
      ∧ (setupWrite source w s).free = s.free ∧ (setupWrite source w s).pending = s.pending := by
  unfold setupWrite; dsimp only; (repeat' split) <;> simp

@[simp] theorem takeWrite_frame (source : Nat) (w : CalWrite) (cal : Bool) (s : State) :
    (takeWrite source w cal s).node = s.node ∧ (takeWrite source w cal s).cal = s.cal
      ∧ (takeWrite source w cal s).inp = s.inp ∧ (takeWrite source w cal s).peers = s.peers
      ∧ (takeWrite source w cal s).orders = s.orders ∧ (takeWrite source w cal s).chA = s.chA
      ∧ (takeWrite source w cal s).chB = s.chB ∧ (takeWrite source w cal s).step = s.step
      ∧ (takeWrite source w cal s).supply = s.supply ∧ (takeWrite source w cal s).level = s.level
      ∧ (takeWrite source w cal s).square = s.square ∧ (takeWrite source w cal s).wind = s.wind
      ∧ (takeWrite source w cal s).stop = s.stop ∧ (takeWrite source w cal s).road = s.road
      ∧ (takeWrite source w cal s).watch = s.watch ∧ (takeWrite source w cal s).free = s.free
      ∧ (takeWrite source w cal s).pending = s.pending := by
  unfold takeWrite; (repeat' split) <;> simp_all

@[simp] theorem setupLock_frame (source : Nat) (inp : Inputs) (s : State) :
    (setupLock source inp s).free = s.free ∧ (setupLock source inp s).pending = s.pending := by
  unfold setupLock; split <;> simp

@[simp] theorem takeLock_frame (source : Nat) (target : Byte) (inp : Inputs) (s : State) :
    (takeLock source target inp s).pending = s.pending := by
  unfold takeLock; (repeat' split) <;> simp_all

@[simp] theorem takeHeldFrame_frame (f : Instr) (s : State) :
    (takeHeldFrame f s).pending = s.pending := by
  unfold takeHeldFrame; split <;> simp

/-! ### Peers -/

@[simp] theorem setDuplicate_frame (s : State) :
    (setDuplicate s).store = s.store ∧ (setDuplicate s).cal = s.cal ∧ (setDuplicate s).inp = s.inp
      ∧ (setDuplicate s).peers = s.peers ∧ (setDuplicate s).pending = s.pending := by
  unfold setDuplicate; split <;> simp

@[simp] theorem countPass_frame (p : Peer) (s : State) :
    (countPass p s).node = s.node ∧ (countPass p s).store = s.store ∧ (countPass p s).cal = s.cal
      ∧ (countPass p s).inp = s.inp ∧ (countPass p s).bus = s.bus ∧ (countPass p s).peers = s.peers
      ∧ (countPass p s).orders = s.orders ∧ (countPass p s).chA = s.chA ∧ (countPass p s).chB = s.chB
      ∧ (countPass p s).step = s.step ∧ (countPass p s).level = s.level ∧ (countPass p s).square = s.square
      ∧ (countPass p s).wind = s.wind ∧ (countPass p s).stop = s.stop ∧ (countPass p s).road = s.road
      ∧ (countPass p s).watch = s.watch ∧ (countPass p s).free = s.free ∧ (countPass p s).pending = s.pending := by
  unfold countPass; split <;> simp

@[simp] theorem beaconFails_frame (before : Option (Nat × Nat)) (p : Peer) (s : State) :
    (beaconFails before p s).store = s.store ∧ (beaconFails before p s).cal = s.cal
      ∧ (beaconFails before p s).inp = s.inp ∧ (beaconFails before p s).peers = s.peers
      ∧ (beaconFails before p s).free = s.free ∧ (beaconFails before p s).pending = s.pending := by
  unfold beaconFails; split <;> simp

@[simp] theorem beaconArrives_frame (source : Nat) (b : Beacon) (s : State) :
    (beaconArrives source b s).store = s.store ∧ (beaconArrives source b s).cal = s.cal
      ∧ (beaconArrives source b s).inp = s.inp ∧ (beaconArrives source b s).free = s.free
      ∧ (beaconArrives source b s).pending = s.pending := by
  simp [beaconArrives]

@[simp] theorem takeBeacon_frame (source : Nat) (d : Data8) (s : State) :
    (takeBeacon source d s).store = s.store ∧ (takeBeacon source d s).cal = s.cal
      ∧ (takeBeacon source d s).inp = s.inp ∧ (takeBeacon source d s).pending = s.pending := by
  unfold takeBeacon; (repeat' split) <;> simp_all

@[simp] theorem takeDraw_frame (source : Nat) (r : DrawReq) (s : State) :
    (takeDraw source r s).store = s.store ∧ (takeDraw source r s).cal = s.cal ∧ (takeDraw source r s).inp = s.inp
      ∧ (takeDraw source r s).free = s.free ∧ (takeDraw source r s).pending = s.pending := by
  unfold takeDraw; (repeat' split) <;> simp_all

@[simp] theorem setFresh_frame (st : Nat) (f : Freshness) (s : State) :
    (setFresh st f s).node = s.node ∧ (setFresh st f s).store = s.store ∧ (setFresh st f s).cal = s.cal
      ∧ (setFresh st f s).inp = s.inp ∧ (setFresh st f s).bus = s.bus ∧ (setFresh st f s).orders = s.orders
      ∧ (setFresh st f s).chA = s.chA ∧ (setFresh st f s).chB = s.chB ∧ (setFresh st f s).step = s.step
      ∧ (setFresh st f s).supply = s.supply ∧ (setFresh st f s).level = s.level
      ∧ (setFresh st f s).square = s.square ∧ (setFresh st f s).wind = s.wind ∧ (setFresh st f s).stop = s.stop
      ∧ (setFresh st f s).road = s.road ∧ (setFresh st f s).watch = s.watch ∧ (setFresh st f s).free = s.free
      ∧ (setFresh st f s).pending = s.pending := by
  simp [setFresh]

@[simp] theorem setFresh_peers (st : Nat) (f : Freshness) (s : State) :
    (setFresh st f s).peers = mapPeer st (fun p => { p with fresh := f }) s.peers := rfl

/-! ### Motion -/

@[simp] theorem pressed_frame (o : Order) (r : MotionReq) (s : State) :
    (pressed o r s).store = s.store ∧ (pressed o r s).cal = s.cal ∧ (pressed o r s).inp = s.inp
      ∧ (pressed o r s).peers = s.peers ∧ (pressed o r s).pending = s.pending := by
  unfold pressed; split <;> simp

@[simp] theorem sleepNow_frame (panel : Nat) (s : State) :
    (sleepNow panel s).store = s.store ∧ (sleepNow panel s).cal = s.cal ∧ (sleepNow panel s).inp = s.inp
      ∧ (sleepNow panel s).peers = s.peers ∧ (sleepNow panel s).step = s.step ∧ (sleepNow panel s).supply = s.supply
      ∧ (sleepNow panel s).square = s.square ∧ (sleepNow panel s).stop = s.stop ∧ (sleepNow panel s).road = s.road
      ∧ (sleepNow panel s).free = s.free ∧ (sleepNow panel s).pending = s.pending := by
  unfold sleepNow; split <;> simp

@[simp] theorem startPlan_frame (plan : Nat) (r : MotionReq) (s : State) :
    (startPlan plan r s).node = s.node ∧ (startPlan plan r s).store = s.store ∧ (startPlan plan r s).cal = s.cal
      ∧ (startPlan plan r s).inp = s.inp ∧ (startPlan plan r s).peers = s.peers ∧ (startPlan plan r s).watch = s.watch
      ∧ (startPlan plan r s).free = s.free ∧ (startPlan plan r s).pending = s.pending := by
  simp [startPlan]

@[simp] theorem takePlan_frame (r : MotionReq) (s : State) :
    (takePlan r s).node = s.node ∧ (takePlan r s).store = s.store ∧ (takePlan r s).cal = s.cal
      ∧ (takePlan r s).inp = s.inp ∧ (takePlan r s).peers = s.peers ∧ (takePlan r s).watch = s.watch
      ∧ (takePlan r s).free = s.free ∧ (takePlan r s).pending = s.pending := by
  unfold takePlan; dsimp only; (repeat' split) <;> simp

@[simp] theorem expireHold_frame (s : State) :
    (expireHold s).store = s.store ∧ (expireHold s).cal = s.cal ∧ (expireHold s).inp = s.inp
      ∧ (expireHold s).peers = s.peers ∧ (expireHold s).free = s.free ∧ (expireHold s).pending = s.pending := by
  unfold expireHold; split <;> simp

/-! ### BusPort -/

@[simp] theorem causeSent_frame (t : Tx) (s : State) :
    (causeSent t s).store = s.store ∧ (causeSent t s).cal = s.cal ∧ (causeSent t s).inp = s.inp
      ∧ (causeSent t s).peers = s.peers ∧ (causeSent t s).orders = s.orders ∧ (causeSent t s).chA = s.chA
      ∧ (causeSent t s).chB = s.chB ∧ (causeSent t s).step = s.step ∧ (causeSent t s).supply = s.supply
      ∧ (causeSent t s).level = s.level ∧ (causeSent t s).square = s.square ∧ (causeSent t s).wind = s.wind
      ∧ (causeSent t s).stop = s.stop ∧ (causeSent t s).road = s.road ∧ (causeSent t s).watch = s.watch
      ∧ (causeSent t s).free = s.free ∧ (causeSent t s).pending = s.pending := by
  simp [causeSent]

@[simp] theorem causeSent_bus (t : Tx) (s : State) :
    (causeSent t s).bus = { s.bus with wakeCause := t.causeLeft s.bus.wakeCause } := rfl

@[simp] theorem causeSent_node (t : Tx) (s : State) :
    (causeSent t s).node = { s.node with startCause := t.causeLeft s.node.startCause } := rfl

@[simp] theorem claimSent_frame (t : Tx) (s : State) :
    (claimSent t s).node = s.node ∧ (claimSent t s).store = s.store ∧ (claimSent t s).cal = s.cal
      ∧ (claimSent t s).inp = s.inp ∧ (claimSent t s).bus = s.bus ∧ (claimSent t s).peers = s.peers
      ∧ (claimSent t s).orders = s.orders ∧ (claimSent t s).chA = s.chA ∧ (claimSent t s).chB = s.chB
      ∧ (claimSent t s).step = s.step ∧ (claimSent t s).level = s.level ∧ (claimSent t s).square = s.square
      ∧ (claimSent t s).wind = s.wind ∧ (claimSent t s).stop = s.stop ∧ (claimSent t s).road = s.road
      ∧ (claimSent t s).watch = s.watch ∧ (claimSent t s).free = s.free ∧ (claimSent t s).pending = s.pending := by
  unfold claimSent; split <;> simp

@[simp] theorem goStandby_frame (s : State) :
    (goStandby s).node = s.node ∧ (goStandby s).store = s.store ∧ (goStandby s).cal = s.cal
      ∧ (goStandby s).inp = s.inp ∧ (goStandby s).peers = s.peers ∧ (goStandby s).orders = s.orders
      ∧ (goStandby s).chA = s.chA ∧ (goStandby s).chB = s.chB ∧ (goStandby s).step = s.step
      ∧ (goStandby s).supply = s.supply ∧ (goStandby s).level = s.level ∧ (goStandby s).square = s.square
      ∧ (goStandby s).wind = s.wind ∧ (goStandby s).stop = s.stop ∧ (goStandby s).road = s.road
      ∧ (goStandby s).watch = s.watch ∧ (goStandby s).free = s.free ∧ (goStandby s).pending = s.pending := by
  simp [goStandby]

@[simp] theorem standbyIfEmpty_frame (s : State) :
    (standbyIfEmpty s).node = s.node ∧ (standbyIfEmpty s).store = s.store ∧ (standbyIfEmpty s).cal = s.cal
      ∧ (standbyIfEmpty s).inp = s.inp ∧ (standbyIfEmpty s).peers = s.peers ∧ (standbyIfEmpty s).orders = s.orders
      ∧ (standbyIfEmpty s).chA = s.chA ∧ (standbyIfEmpty s).chB = s.chB ∧ (standbyIfEmpty s).step = s.step
      ∧ (standbyIfEmpty s).supply = s.supply ∧ (standbyIfEmpty s).level = s.level
      ∧ (standbyIfEmpty s).square = s.square ∧ (standbyIfEmpty s).wind = s.wind ∧ (standbyIfEmpty s).stop = s.stop
      ∧ (standbyIfEmpty s).road = s.road ∧ (standbyIfEmpty s).watch = s.watch ∧ (standbyIfEmpty s).free = s.free
      ∧ (standbyIfEmpty s).pending = s.pending := by
  unfold standbyIfEmpty; split <;> simp

/-! ### Channels -/

@[simp] theorem takeSwitch_frame (sw : EndSwitch) (ch : ChanId) (c : Bool) (s : State) :
    (takeSwitch sw ch c s).node = s.node ∧ (takeSwitch sw ch c s).store = s.store
      ∧ (takeSwitch sw ch c s).cal = s.cal ∧ (takeSwitch sw ch c s).bus = s.bus
      ∧ (takeSwitch sw ch c s).peers = s.peers ∧ (takeSwitch sw ch c s).orders = s.orders
      ∧ (takeSwitch sw ch c s).step = s.step ∧ (takeSwitch sw ch c s).supply = s.supply
      ∧ (takeSwitch sw ch c s).level = s.level ∧ (takeSwitch sw ch c s).square = s.square
      ∧ (takeSwitch sw ch c s).wind = s.wind ∧ (takeSwitch sw ch c s).stop = s.stop
      ∧ (takeSwitch sw ch c s).road = s.road ∧ (takeSwitch sw ch c s).watch = s.watch
      ∧ (takeSwitch sw ch c s).free = s.free ∧ (takeSwitch sw ch c s).pending = s.pending := by
  simp [takeSwitch]

@[simp] theorem countPulse_frame (ch : ChanId) (d : Dir) (s : State) :
    (countPulse ch d s).node = s.node ∧ (countPulse ch d s).store = s.store ∧ (countPulse ch d s).cal = s.cal
      ∧ (countPulse ch d s).inp = s.inp ∧ (countPulse ch d s).peers = s.peers ∧ (countPulse ch d s).watch = s.watch
      ∧ (countPulse ch d s).free = s.free ∧ (countPulse ch d s).pending = s.pending := by
  unfold countPulse; dsimp only; split <;> simp

@[simp] theorem homeTaken_frame (ch : ChanId) (s : State) :
    (homeTaken ch s).node = s.node ∧ (homeTaken ch s).store = s.store ∧ (homeTaken ch s).cal = s.cal
      ∧ (homeTaken ch s).inp = s.inp ∧ (homeTaken ch s).peers = s.peers ∧ (homeTaken ch s).watch = s.watch
      ∧ (homeTaken ch s).free = s.free ∧ (homeTaken ch s).pending = s.pending := by
  unfold homeTaken; dsimp only; split <;> simp

@[simp] theorem outTaken_frame (ch : ChanId) (s : State) :
    (outTaken ch s).node = s.node ∧ (outTaken ch s).store = s.store ∧ (outTaken ch s).cal = s.cal
      ∧ (outTaken ch s).inp = s.inp ∧ (outTaken ch s).peers = s.peers ∧ (outTaken ch s).watch = s.watch
      ∧ (outTaken ch s).free = s.free ∧ (outTaken ch s).pending = s.pending := by
  unfold outTaken; dsimp only; split <;> simp

@[simp] theorem pairTaken_frame (s : State) :
    (pairTaken s).node = s.node ∧ (pairTaken s).store = s.store ∧ (pairTaken s).cal = s.cal
      ∧ (pairTaken s).inp = s.inp ∧ (pairTaken s).peers = s.peers ∧ (pairTaken s).orders = s.orders
      ∧ (pairTaken s).chA = s.chA ∧ (pairTaken s).chB = s.chB ∧ (pairTaken s).step = s.step
      ∧ (pairTaken s).supply = s.supply ∧ (pairTaken s).level = s.level ∧ (pairTaken s).square = s.square
      ∧ (pairTaken s).wind = s.wind ∧ (pairTaken s).road = s.road ∧ (pairTaken s).watch = s.watch
      ∧ (pairTaken s).free = s.free ∧ (pairTaken s).pending = s.pending := by
  unfold pairTaken; split <;> simp

@[simp] theorem pairOpened_frame (ch : ChanId) (s : State) :
    (pairOpened ch s).node = s.node ∧ (pairOpened ch s).store = s.store ∧ (pairOpened ch s).cal = s.cal
      ∧ (pairOpened ch s).inp = s.inp ∧ (pairOpened ch s).peers = s.peers ∧ (pairOpened ch s).watch = s.watch
      ∧ (pairOpened ch s).free = s.free ∧ (pairOpened ch s).pending = s.pending := by
  unfold pairOpened; dsimp only; (repeat' split) <;> simp

@[simp] theorem snapEnd_frame (ch : ChanId) (d : Dir) (s : State) :
    (snapEnd ch d s).node = s.node ∧ (snapEnd ch d s).store = s.store ∧ (snapEnd ch d s).cal = s.cal
      ∧ (snapEnd ch d s).inp = s.inp ∧ (snapEnd ch d s).bus = s.bus ∧ (snapEnd ch d s).peers = s.peers
      ∧ (snapEnd ch d s).orders = s.orders ∧ (snapEnd ch d s).step = s.step ∧ (snapEnd ch d s).supply = s.supply
      ∧ (snapEnd ch d s).level = s.level ∧ (snapEnd ch d s).square = s.square ∧ (snapEnd ch d s).wind = s.wind
      ∧ (snapEnd ch d s).watch = s.watch ∧ (snapEnd ch d s).free = s.free ∧ (snapEnd ch d s).pending = s.pending := by
  simp [snapEnd]

@[simp] theorem onPair_frame (ch : ChanId) (f : Channel → Channel) (s : State) :
    (onPair ch f s).node = s.node ∧ (onPair ch f s).store = s.store ∧ (onPair ch f s).cal = s.cal
      ∧ (onPair ch f s).inp = s.inp ∧ (onPair ch f s).bus = s.bus ∧ (onPair ch f s).peers = s.peers
      ∧ (onPair ch f s).orders = s.orders ∧ (onPair ch f s).step = s.step ∧ (onPair ch f s).supply = s.supply
      ∧ (onPair ch f s).level = s.level ∧ (onPair ch f s).square = s.square ∧ (onPair ch f s).wind = s.wind
      ∧ (onPair ch f s).stop = s.stop ∧ (onPair ch f s).road = s.road ∧ (onPair ch f s).watch = s.watch
      ∧ (onPair ch f s).free = s.free ∧ (onPair ch f s).pending = s.pending := by
  unfold onPair; split <;> simp

@[simp] theorem retryPause_frame (ch : ChanId) (s : State) :
    (retryPause ch s).node = s.node ∧ (retryPause ch s).store = s.store ∧ (retryPause ch s).cal = s.cal
      ∧ (retryPause ch s).inp = s.inp ∧ (retryPause ch s).bus = s.bus ∧ (retryPause ch s).peers = s.peers
      ∧ (retryPause ch s).orders = s.orders ∧ (retryPause ch s).supply = s.supply ∧ (retryPause ch s).level = s.level
      ∧ (retryPause ch s).square = s.square ∧ (retryPause ch s).wind = s.wind ∧ (retryPause ch s).stop = s.stop
      ∧ (retryPause ch s).road = s.road ∧ (retryPause ch s).watch = s.watch ∧ (retryPause ch s).free = s.free
      ∧ (retryPause ch s).pending = s.pending := by
  simp [retryPause]

@[simp] theorem stallAction_frame (ch : ChanId) (s : State) :
    (stallAction ch s).node = s.node ∧ (stallAction ch s).store = s.store ∧ (stallAction ch s).cal = s.cal
      ∧ (stallAction ch s).inp = s.inp ∧ (stallAction ch s).peers = s.peers ∧ (stallAction ch s).watch = s.watch
      ∧ (stallAction ch s).free = s.free ∧ (stallAction ch s).pending = s.pending := by
  unfold stallAction; dsimp only; (repeat' split) <;> simp

@[simp] theorem stallRetry_frame (ch : ChanId) (s : State) :
    (stallRetry ch s).node = s.node ∧ (stallRetry ch s).store = s.store ∧ (stallRetry ch s).cal = s.cal
      ∧ (stallRetry ch s).inp = s.inp ∧ (stallRetry ch s).peers = s.peers ∧ (stallRetry ch s).watch = s.watch
      ∧ (stallRetry ch s).free = s.free ∧ (stallRetry ch s).pending = s.pending := by
  unfold stallRetry; split <;> simp

@[simp] theorem judgeStall_frame (ch : ChanId) (s : State) :
    (judgeStall ch s).node = s.node ∧ (judgeStall ch s).store = s.store ∧ (judgeStall ch s).cal = s.cal
      ∧ (judgeStall ch s).inp = s.inp ∧ (judgeStall ch s).peers = s.peers ∧ (judgeStall ch s).watch = s.watch
      ∧ (judgeStall ch s).free = s.free ∧ (judgeStall ch s).pending = s.pending := by
  unfold judgeStall; dsimp only; split <;> simp

/-! ### SupplyShare -/

@[simp] theorem hotNotice_frame (e : EventCode) (t : Int) (s : State) :
    (hotNotice e t s).node = s.node ∧ (hotNotice e t s).store = s.store ∧ (hotNotice e t s).cal = s.cal
      ∧ (hotNotice e t s).inp = s.inp ∧ (hotNotice e t s).peers = s.peers ∧ (hotNotice e t s).orders = s.orders
      ∧ (hotNotice e t s).chA = s.chA ∧ (hotNotice e t s).chB = s.chB ∧ (hotNotice e t s).step = s.step
      ∧ (hotNotice e t s).supply = s.supply ∧ (hotNotice e t s).level = s.level ∧ (hotNotice e t s).square = s.square
      ∧ (hotNotice e t s).wind = s.wind ∧ (hotNotice e t s).stop = s.stop ∧ (hotNotice e t s).road = s.road
      ∧ (hotNotice e t s).watch = s.watch ∧ (hotNotice e t s).pending = s.pending := by
  unfold hotNotice; split <;> simp

@[simp] theorem readHot_frame (t : Int) (s : State) :
    (readHot t s).node = s.node ∧ (readHot t s).store = s.store ∧ (readHot t s).cal = s.cal
      ∧ (readHot t s).inp = s.inp ∧ (readHot t s).peers = s.peers ∧ (readHot t s).orders = s.orders
      ∧ (readHot t s).chA = s.chA ∧ (readHot t s).chB = s.chB ∧ (readHot t s).step = s.step
      ∧ (readHot t s).level = s.level ∧ (readHot t s).square = s.square ∧ (readHot t s).wind = s.wind
      ∧ (readHot t s).stop = s.stop ∧ (readHot t s).road = s.road ∧ (readHot t s).watch = s.watch
      ∧ (readHot t s).pending = s.pending := by
  unfold readHot; (repeat' split) <;> simp_all

/-! ### Levelling -/

@[simp] theorem judgeTilt_frame (sound : Bool) (s : State) :
    (judgeTilt sound s).node = s.node ∧ (judgeTilt sound s).store = s.store ∧ (judgeTilt sound s).cal = s.cal
      ∧ (judgeTilt sound s).inp = s.inp ∧ (judgeTilt sound s).peers = s.peers ∧ (judgeTilt sound s).watch = s.watch
      ∧ (judgeTilt sound s).free = s.free ∧ (judgeTilt sound s).pending = s.pending := by
  unfold judgeTilt; dsimp only; (repeat' split) <;> simp

/-! ### Slide -/

@[simp] theorem graceEnds_frame (s : State) :
    (graceEnds s).node = s.node ∧ (graceEnds s).store = s.store ∧ (graceEnds s).cal = s.cal
      ∧ (graceEnds s).inp = s.inp ∧ (graceEnds s).peers = s.peers ∧ (graceEnds s).watch = s.watch
      ∧ (graceEnds s).free = s.free ∧ (graceEnds s).pending = s.pending := by
  unfold graceEnds; split <;> simp

/-! ### RoadState -/

@[simp] theorem takeProtect_frame (source : Nat) (r : ProtectReq) (s : State) :
    (takeProtect source r s).store = s.store ∧ (takeProtect source r s).cal = s.cal
      ∧ (takeProtect source r s).inp = s.inp ∧ (takeProtect source r s).peers = s.peers
      ∧ (takeProtect source r s).free = s.free ∧ (takeProtect source r s).pending = s.pending := by
  unfold takeProtect; (repeat' split) <;> simp_all

/-! ### ParkWatch -/

@[simp] theorem pollMade_frame (s : State) :
    (pollMade s).node = s.node ∧ (pollMade s).store = s.store ∧ (pollMade s).cal = s.cal ∧ (pollMade s).inp = s.inp
      ∧ (pollMade s).bus = s.bus ∧ (pollMade s).peers = s.peers ∧ (pollMade s).orders = s.orders
      ∧ (pollMade s).chA = s.chA ∧ (pollMade s).chB = s.chB ∧ (pollMade s).step = s.step
      ∧ (pollMade s).supply = s.supply ∧ (pollMade s).level = s.level ∧ (pollMade s).square = s.square
      ∧ (pollMade s).wind = s.wind ∧ (pollMade s).stop = s.stop ∧ (pollMade s).road = s.road
      ∧ (pollMade s).free = s.free ∧ (pollMade s).pending = s.pending := by
  simp [pollMade]

@[simp] theorem pollSkipped_frame (s : State) :
    (pollSkipped s).node = s.node ∧ (pollSkipped s).store = s.store ∧ (pollSkipped s).cal = s.cal
      ∧ (pollSkipped s).inp = s.inp ∧ (pollSkipped s).bus = s.bus ∧ (pollSkipped s).peers = s.peers
      ∧ (pollSkipped s).orders = s.orders ∧ (pollSkipped s).chA = s.chA ∧ (pollSkipped s).chB = s.chB
      ∧ (pollSkipped s).step = s.step ∧ (pollSkipped s).supply = s.supply ∧ (pollSkipped s).level = s.level
      ∧ (pollSkipped s).square = s.square ∧ (pollSkipped s).wind = s.wind ∧ (pollSkipped s).stop = s.stop
      ∧ (pollSkipped s).road = s.road ∧ (pollSkipped s).free = s.free ∧ (pollSkipped s).pending = s.pending := by
  simp [pollSkipped]

/-! ### Clock -/

@[simp] theorem elapseActive_frame (s : State) :
    (elapseActive s).store = s.store ∧ (elapseActive s).cal = s.cal ∧ (elapseActive s).inp = s.inp
      ∧ (elapseActive s).bus = s.bus ∧ (elapseActive s).road = s.road ∧ (elapseActive s).watch = s.watch
      ∧ (elapseActive s).free = s.free ∧ (elapseActive s).pending = s.pending := by
  simp [elapseActive]

@[simp] theorem elapse_frame (s : State) :
    (elapse s).store = s.store ∧ (elapse s).cal = s.cal ∧ (elapse s).inp = s.inp ∧ (elapse s).road = s.road
      ∧ (elapse s).free = s.free ∧ (elapse s).pending = s.pending := by
  unfold elapse; dsimp only; (repeat' split) <;> simp

@[simp] theorem tick_frame (s : State) :
    (tick s).store = s.store ∧ (tick s).cal = s.cal ∧ (tick s).inp = s.inp ∧ (tick s).road = s.road
      ∧ (tick s).free = s.free := by
  simp [tick]

end Sys2Proof.Machine
end

