-- ==== Sys2Proof/Laws/Store.lean ====
section
/-! SUPPORT. The calibration store: reading after writing, and that every operation on it keeps its canonical form. -/

namespace Sys2Proof.Machine

/-! ### Cells -/

/-- A weaker lower bound still bounds. -/
theorem cellsWf_mono {lo lo2 : Nat} (h : lo2 ≤ lo) : ∀ {cells : List Host.Cell}, cellsWf lo cells = true → cellsWf lo2 cells = true
  | [], _ => rfl
  | (k, v) :: rest, hw => by
    simp only [cellsWf, Bool.and_eq_true, decide_eq_true_eq] at hw ⊢
    exact ⟨⟨Nat.le_trans h hw.1.1, hw.1.2⟩, hw.2⟩

/-- Writing a cell inside the record keeps the canonical form. -/
theorem cellsPut_wf {lo a : Nat} (v : Byte) (h1 : lo ≤ a) (h2 : a < 256) :
    ∀ {cells : List Host.Cell}, cellsWf lo cells = true → cellsWf lo (cellsPut cells a v) = true
  | [], _ => by simp [cellsPut, cellsWf, h1, h2]
  | (k, w) :: rest, hw => by
    simp only [cellsWf, Bool.and_eq_true, decide_eq_true_eq] at hw
    unfold cellsPut
    split
    · rename_i hlt
      simp only [cellsWf, Bool.and_eq_true, decide_eq_true_eq]
      exact ⟨⟨h1, h2⟩, ⟨hlt, hw.1.2⟩, hw.2⟩
    · split
      · rename_i heq
        subst heq
        simp only [cellsWf, Bool.and_eq_true, decide_eq_true_eq]
        exact ⟨⟨h1, h2⟩, hw.2⟩
      · rename_i hlt hne
        simp only [cellsWf, Bool.and_eq_true, decide_eq_true_eq]
        exact ⟨hw.1, cellsPut_wf v (by omega) h2 hw.2⟩
termination_by structural cells => cells

/-- No cell below the bound is listed. -/
theorem cellsFind_below {lo a : Nat} (h : a < lo) :
    ∀ {cells : List Host.Cell}, cellsWf lo cells = true → cellsFind cells a = none
  | [], _ => rfl
  | (k, w) :: rest, hw => by
    simp only [cellsWf, Bool.and_eq_true, decide_eq_true_eq] at hw
    have hk : ¬ k = a := by omega
    simp only [cellsFind, hk, if_false]
    exact cellsFind_below (lo := k + 1) (by omega) hw.2
termination_by structural cells => cells

/-- A cell written reads as given. -/
theorem cellsFind_put (a : Nat) (v : Byte) : ∀ cells : List Host.Cell, cellsFind (cellsPut cells a v) a = some v
  | [] => by simp [cellsPut, cellsFind]
  | (k, w) :: rest => by
    unfold cellsPut
    split
    · simp [cellsFind]
    · split
      · simp [cellsFind]
      · rename_i h1 h2
        simp only [cellsFind]
        rw [if_neg (fun h => h2 h.symm)]
        exact cellsFind_put a v rest

/-- Every other cell reads as before. -/
theorem cellsFind_put_ne {a b : Nat} (v : Byte) (h : b ≠ a) :
    ∀ cells : List Host.Cell, cellsFind (cellsPut cells a v) b = cellsFind cells b
  | [] => by simp [cellsPut, cellsFind, Ne.symm h]
  | (k, w) :: rest => by
    unfold cellsPut
    split
    · simp [cellsFind, Ne.symm h]
    · split
      · rename_i h2
        subst h2
        simp [cellsFind, Ne.symm h]
      · simp only [cellsFind]
        rw [cellsFind_put_ne v h rest]

/-! ### Programming -/

/-- Programming touches the cells alone. -/
@[simp] theorem Store.program_frame (st : Store) (a : Nat) (bytes : List Byte) :
    (st.program a bytes).locked = st.locked ∧ (st.program a bytes).prog = st.prog
      ∧ (st.program a bytes).held = st.held := by
  induction bytes generalizing st a with
  | nil => simp [Store.program]
  | cons b rest ih => unfold Store.program; split <;> simp [ih]

/-- Programming keeps the canonical form (R5). -/
theorem Store.program_wf {st : Store} (a : Nat) (bytes : List Byte) (h : st.wf = true) :
    (st.program a bytes).wf = true := by
  induction bytes generalizing st a with
  | nil => simpa [Store.program] using h
  | cons b rest ih =>
    unfold Store.program
    split
    · rename_i ha
      exact ih _ (show Store.wf { st with cells := cellsPut st.cells a b } = true from cellsPut_wf b (Nat.zero_le _) ha h)
    · exact h

/-- A byte outside the programmed run keeps its mark and value (R6). -/
theorem Store.program_outside (st : Store) (a b : Nat) (bytes : List Byte) (h : b < a ∨ a + bytes.length ≤ b) :
    cellsFind (st.program a bytes).cells b = cellsFind st.cells b := by
  induction bytes generalizing st a with
  | nil => rfl
  | cons x rest ih =>
    simp only [List.length_cons] at h
    unfold Store.program
    split
    · rw [ih _ _ (by omega)]
      exact cellsFind_put_ne x (by omega) st.cells
    · rfl

/-- A byte of the programmed run is written, with its new value (R6, R7). -/
theorem Store.program_inside (st : Store) (a i : Nat) (bytes : List Byte) (h : i < bytes.length) (h2 : a + i < 256) :
    cellsFind (st.program a bytes).cells (a + i) = bytes[i]? := by
  induction bytes generalizing st a i with
  | nil => simp at h
  | cons x rest ih =>
    unfold Store.program
    rw [if_pos (by omega)]
    cases i with
    | zero =>
      rw [Store.program_outside _ _ _ _ (by omega)]
      simpa using cellsFind_put a x st.cells
    | succ j =>
      have h3 := ih { st with cells := cellsPut st.cells a x } (a + 1) j (by simpa using h) (by omega)
      simpa [Nat.add_assoc, Nat.add_comm 1 j] using h3

/-! ### The operations of the node -/

/-- The reset store is in its canonical form. -/
theorem reset_store_wf : State.reset.store.wf = true := rfl

/-- A fold of programmings keeps the canonical form. -/
theorem foldl_program_wf (put : Store → Nat → Store) (hp : ∀ st i, st.wf = true → (put st i).wf = true) (l : List Nat)
    {st : Store} (h : st.wf = true) : (l.foldl put st).wf = true := by
  induction l generalizing st with
  | nil => exact h
  | cons x rest ih => exact ih (hp st x h)

/-- A programming that a reset stops leaves the canonical form (R7). -/
theorem stopProgramming_wf {s : State} (h : s.store.wf = true) : (stopProgramming s).store.wf = true := by
  unfold stopProgramming
  split
  · exact h
  · rename_i a bytes _
    refine foldl_program_wf (st := s.store) _ (fun st i hst => ?_) _ h
    split
    · exact Store.program_wf _ _ hst
    · exact hst

/-- A stopped programming leaves no programming, no held frame, and the lock as it was (R7). -/
@[simp] theorem stopProgramming_store (s : State) :
    (stopProgramming s).store.prog = none ∧ (stopProgramming s).store.held = []
      ∧ (stopProgramming s).store.locked = s.store.locked := by
  unfold stopProgramming
  split
  · rename_i h
    simp [h]
  · rename_i a bytes _
    simp only [State.setFree_store, State.onStore_store, true_and]
    generalize [0, 1, 2, 3].filter (· < bytes.length) = l
    generalize s.store = st
    induction l generalizing st with
    | nil => rfl
    | cons x rest ih =>
      rw [List.foldl_cons, ih]
      split <;> simp

end Sys2Proof.Machine
end

