-- ==== Sys2Proof/Laws/Effects.lean ====
section
/-! SUPPORT. What the shared operations do: channel records at rest, starts and halts, the claim, notices and active
faults, the press list, the peer table and the reception of a frame. -/

namespace Sys2Proof.Machine

/-! ### Channel records (R68 to R71) -/

/-- Rest ends the order and leaves the place, the counters and the recorded fault. -/
@[simp] theorem Channel.rest_fields (a : Activity) (c : Channel) :
    (c.rest a).act = a ∧ (c.rest a).order = none ∧ (c.rest a).pause = none ∧ (c.rest a).applied = 0
      ∧ (c.rest a).stall = none ∧ (c.rest a).roleWait = false ∧ (c.rest a).count = c.count ∧ (c.rest a).cls = c.cls
      ∧ (c.rest a).acc = c.acc ∧ (c.rest a).wall = c.wall ∧ (c.rest a).retries = c.retries
      ∧ (c.rest a).fault = c.fault ∧ (c.rest a).drvDir = c.drvDir ∧ (c.rest a).homeClosed = c.homeClosed
      ∧ (c.rest a).outClosed = c.outClosed := by
  unfold Channel.rest Channel.leaveDriving
  split <;> simp

/-- Only a channel that carries an order is put to rest. -/
theorem Channel.restIfCarrying_act (a : Activity) (c : Channel) :
    (c.restIfCarrying a).act = if c.carries then a else c.act := by
  unfold Channel.restIfCarrying
  split <;> simp

/-- The place of a channel outlives its order. -/
@[simp] theorem Channel.restIfCarrying_place (a : Activity) (c : Channel) :
    (c.restIfCarrying a).count = c.count ∧ (c.restIfCarrying a).cls = c.cls
      ∧ (c.restIfCarrying a).acc = c.acc ∧ (c.restIfCarrying a).fault = c.fault := by
  unfold Channel.restIfCarrying
  split <;> simp

/-- A channel put to rest with an activity that carries nothing carries no order. -/
theorem Channel.restIfCarrying_carries {a : Activity} (h : a = .idle ∨ a = .halted ∨ a = .faulted) (c : Channel) :
    (c.restIfCarrying a).carries = false := by
  unfold Channel.restIfCarrying
  split
  · rcases h with h | h | h <;> simp [Channel.carries, h]
  · rename_i hc
    simpa using hc

/-- A channel fault leaves the channel FAULTED with it, at duty 0 and without an order (R86). -/
@[simp] theorem Channel.takeFault_fields (k : FaultKind) (d : Half) (c : Channel) :
    (c.takeFault k d).act = .faulted ∧ (c.takeFault k d).fault = some (k, d) ∧ (c.takeFault k d).order = none
      ∧ (c.takeFault k d).applied = 0 ∧ (c.takeFault k d).count = c.count ∧ (c.takeFault k d).cls = c.cls := by
  simp [Channel.takeFault]

/-- A start sets the order and its counters, and leaves the place (R69). -/
@[simp] theorem Channel.start_fields (o : Origin) (d : Dir) (c : Channel) :
    (c.start o d).order = some { origin := o, dir := d, age := 0 } ∧ (c.start o d).acc = 0 ∧ (c.start o d).wall = 0
      ∧ (c.start o d).retries = 0 ∧ (c.start o d).stallNoticed = false ∧ (c.start o d).count = c.count
      ∧ (c.start o d).cls = c.cls := by
  unfold Channel.start
  dsimp only
  split
  · split
    · simp
    · split
      · simp
      · unfold Channel.pauseFor Channel.leaveDriving
        split <;> simp
  · simp

/-- A start of a channel at rest leaves it WAITING without a recorded fault (R69). -/
theorem Channel.start_at_rest {c : Channel} (h : c.carries = false) (o : Origin) (d : Dir) :
    (c.start o d).act = .waiting ∧ (c.start o d).fault = none := by
  simp [Channel.start, h]

/-- After a start the channel carries an order (R69). -/
theorem Channel.start_carries (o : Origin) (d : Dir) (c : Channel) : (c.start o d).carries = true := by
  unfold Channel.start Channel.carries
  dsimp only
  split
  · rename_i h
    split
    · simpa [Channel.carries] using h
    · split
      · rename_i hw
        simp [hw]
      · simp [Channel.pauseFor]
  · simp

/-! ### Travel -/

/-- The accumulator grows; nothing else of a channel changes (R83). -/
@[simp] theorem addAcc_chA (n : Nat) (s : State) : (addAcc n s).chA = { s.chA with acc := s.chA.acc + n } := by
  unfold addAcc
  dsimp only
  split <;> simp

/-- The end of a duty step changes no activity, order or place (R83). -/
@[simp] theorem closeStep_chan (ch : ChanId) (s : State) :
    ((closeStep s).chan ch).act = (s.chan ch).act ∧ ((closeStep s).chan ch).order = (s.chan ch).order
      ∧ ((closeStep s).chan ch).count = (s.chan ch).count ∧ ((closeStep s).chan ch).cls = (s.chan ch).cls
      ∧ ((closeStep s).chan ch).applied = (s.chan ch).applied ∧ ((closeStep s).chan ch).fault = (s.chan ch).fault := by
  unfold closeStep
  split
  · simp
  · split
    · simp
    · unfold addAcc
      dsimp only
      split <;> cases ch <;> simp

/-! ### Carrying an order depends on the activities alone -/

/-- Equal activities carry alike. -/
theorem Channel.carries_congr {c d : Channel} (h : c.act = d.act) : c.carries = d.carries :=
  congrArg (fun a => a = Activity.waiting || a = Activity.driving || a = Activity.paused) h

/-- Equal roles and activities carry alike. -/
theorem anyCarries_congr {s t : State} (hr : t.node.role = s.node.role) (ha : t.chA.act = s.chA.act)
    (hb : t.chB.act = s.chB.act) : t.anyCarries = s.anyCarries := by
  have h : ∀ ch, (t.chan ch).carries = (s.chan ch).carries
    | .a => Channel.carries_congr ha
    | .b => Channel.carries_congr hb
  unfold State.anyCarries State.chanIds State.isSlide
  rw [hr]
  simp only [h]

/-- Equal roles and activities drive alike. -/
theorem anyDriving_congr {s t : State} (hr : t.node.role = s.node.role) (ha : t.chA.act = s.chA.act)
    (hb : t.chB.act = s.chB.act) : t.anyDriving = s.anyDriving := by
  have h : ∀ ch, decide ((t.chan ch).act = .driving) = decide ((s.chan ch).act = .driving)
    | .a => congrArg (fun a => decide (a = Activity.driving)) ha
    | .b => congrArg (fun a => decide (a = Activity.driving)) hb
  unfold State.anyDriving State.chanIds State.isSlide
  rw [hr]
  simp only [h]

/-- The channels of a node are those it has. -/
theorem mem_chanIds {s : State} {ch : ChanId} : ch ∈ s.chanIds ↔ s.hasChan ch = true := by
  unfold State.chanIds State.hasChan
  cases ch <;> split <;> simp_all

/-! ### Halts (R59, R71) -/

/-- What `restAll` does to each channel. -/
@[simp] theorem restAll_act (a : Activity) (ch : ChanId) (s : State) :
    ((restAll a s).chan ch).act = if (s.chan ch).carries then a else (s.chan ch).act := by
  unfold restAll
  rw [(closeStep_chan ch _).1]
  cases ch
  · exact Channel.restIfCarrying_act a s.chA
  · exact Channel.restIfCarrying_act a s.chB

/-- `restAll` keeps every place. -/
@[simp] theorem restAll_place (a : Activity) (ch : ChanId) (s : State) :
    ((restAll a s).chan ch).count = (s.chan ch).count ∧ ((restAll a s).chan ch).cls = (s.chan ch).cls := by
  unfold restAll
  rw [(closeStep_chan ch _).2.2.1, (closeStep_chan ch _).2.2.2.1]
  cases ch <;> simp

/-- After `restAll` with an activity at rest no channel carries an order. -/
theorem restAll_anyCarries {a : Activity} (h : a = .idle ∨ a = .halted ∨ a = .faulted) (s : State) :
    (restAll a s).anyCarries = false := by
  have hc : ∀ ch, ((restAll a s).chan ch).carries = false := fun ch => by
    have h1 := restAll_act a ch s
    unfold Channel.carries
    rw [h1]
    split
    · rcases h with h | h | h <;> simp [h]
    · rename_i hn
      simpa [Channel.carries] using hn
  simp [State.anyCarries, hc]

/-! ### The claim (R88, R89) -/

/-- A released claim is gone, with its passes and its cap; without one nothing happens. -/
theorem releaseClaim_claim (s : State) : (releaseClaim s).supply.claim = none := by
  unfold releaseClaim
  split
  · assumption
  · simp [clearClaim]

/-- The claim ends exactly when no channel carries an order (R89). -/
theorem settleClaim_claim (s : State) :
    (settleClaim s).supply.claim = if s.anyCarries then s.supply.claim else none := by
  unfold settleClaim
  split
  · rfl
  · exact releaseClaim_claim s

/-- A decision sets the budget cap and nothing else (R92). -/
@[simp] theorem takeAdmission_supply (s : State) :
    (takeAdmission s).supply.claim = s.supply.claim ∧ (takeAdmission s).supply.passes = s.supply.passes
      ∧ (takeAdmission s).supply.droop = s.supply.droop ∧ (takeAdmission s).supply.hot = s.supply.hot
      ∧ (takeAdmission s).supply.low = s.supply.low := by
  unfold takeAdmission; split <;> (try split) <;> simp

/-- The passes return to 0, and the claim stands as it was (R96). -/
@[simp] theorem zeroPasses_supply (s : State) :
    (zeroPasses s).supply.claim = s.supply.claim ∧ (zeroPasses s).supply.passes = 0 := by
  unfold zeroPasses; split <;> simp_all

/-- A RELEASE carries the amount, class and yield count that the claim stood with (R29). -/
theorem releaseClaim_slot {c : Claim} {s : State} (h : s.supply.claim = some c) :
    (releaseClaim s).bus.drawSlot = .release c.amount c.baseClass (min 3 s.supply.passes) := by
  simp [releaseClaim, h, State.yieldCount]

/-- A raised claim has the node's amount and the class given, waits for its first CLAIM, and has cap 0 (R88). -/
@[simp] theorem raiseClaim_supply (b : Nat) (s : State) :
    (raiseClaim b s).supply.claim = some { amount := s.claimAmount, baseClass := b, standing := .unsent, settle := 0 }
      ∧ (raiseClaim b s).supply.cap = 0 ∧ (raiseClaim b s).supply.passes = 0
      ∧ (raiseClaim b s).supply.droop = s.supply.droop ∧ (raiseClaim b s).supply.hot = s.supply.hot := by
  simp [raiseClaim]

/-- A dropped claim is gone (R89). -/
@[simp] theorem dropClaim_claim (s : State) :
    (dropClaim s).supply.claim = none ∧ (dropClaim s).supply.cap = 0 ∧ (dropClaim s).supply.passes = 0 := by
  simp [dropClaim, clearClaim]

/-- A budget cap is 0 or a share of at least a quarter (R92). -/
theorem budgetCap_range (room claim : Nat) : budgetCap room claim = 0 ∨ 25 ≤ budgetCap room claim ∧ budgetCap room claim ≤ 100 := by
  unfold budgetCap
  split
  · simp
  · rename_i h1
    split
    · rename_i h2
      right
      have hpos : 0 < claim := by omega
      constructor
      · rw [Nat.le_div_iff_mul_le hpos]; omega
      · apply Nat.div_le_of_le_mul; rw [Nat.mul_comm claim 100]; omega
    · simp

/-! ### The end of an order (R54, R89) -/

/-- The end of an order leaves no order and no hold, and the claim only where a channel still carries one. -/
theorem finishOrder_ends (how : EndHow) (s : State) :
    (finishOrder how s).orders.cur = none ∧ (finishOrder how s).orders.hold = none
      ∧ (s.anyCarries = false → (finishOrder how s).supply.claim = none) := by
  unfold finishOrder
  split
  · rename_i h
    refine ⟨by simp [h], by simp, fun hc => ?_⟩
    rw [settleClaim_claim, if_neg]
    rw [anyCarries_congr (s := s) (by simp) (by simp) (by simp), hc]
    simp
  · rename_i o h
    refine ⟨by simp, by simp, fun hc => ?_⟩
    rw [(zeroPasses_supply _).1, settleClaim_claim, if_neg]
    rw [anyCarries_congr (s := s) (by simp) (by simp) (by simp), hc]
    simp

/-- The own part of a plan whose order ends is DONE at the step's end state and FAILED anywhere else (R63). -/
theorem finishOrder_part {how : EndHow} {s : State} {o : CurOrder} {c : Cursor} (ho : s.orders.cur = some o)
    (hp : o.origin = .plan) (hc : s.orders.cursor = some c) :
    (finishOrder how s).orders.cursor = some { c with part := s.endedPart o.task } := by
  unfold finishOrder
  simp [ho, hp, hc]

/-- A halt of the node leaves no order, no hold and no claim. -/
theorem haltNode_ends (r : HaltReason) (s : State) :
    (haltNode r s).orders.cur = none ∧ (haltNode r s).orders.hold = none ∧ (haltNode r s).supply.claim = none := by
  have h := finishOrder_ends (.halt r) (clearSession (restAll .halted s))
  refine ⟨h.1, h.2.1, h.2.2 ?_⟩
  rw [anyCarries_congr (s := restAll .halted s) (by simp) (by simp) (by simp)]
  exact restAll_anyCarries (.inr (.inl rfl)) s

/-- A halt of the node leaves every channel that carried an order HALTED, and its place as it was. -/
theorem haltNode_chan (r : HaltReason) (ch : ChanId) (s : State) :
    ((haltNode r s).chan ch).act = (if (s.chan ch).carries then .halted else (s.chan ch).act)
      ∧ ((haltNode r s).chan ch).count = (s.chan ch).count ∧ ((haltNode r s).chan ch).cls = (s.chan ch).cls := by
  have hA : (haltNode r s).chan ch = (restAll .halted s).chan ch := by
    cases ch <;> simp [haltNode, finishOrder] <;> split <;> simp
  rw [hA]
  exact ⟨restAll_act _ _ _, (restAll_place _ _ _).1, (restAll_place _ _ _).2⟩

/-! ### Notices and active faults (R30, R151) -/

/-- The queue never grows past eight. -/
theorem queueNotice_length {n : Notice} {q : List Notice} (h : q.length ≤ Config.queueMax) :
    (queueNotice n q).length ≤ Config.queueMax := by
  unfold queueNotice
  split
  · simp only [List.length_append, List.length_singleton]; omega
  · split
    · rename_i hany
      simp only [Bool.and_eq_true, List.any_eq_true] at hany
      obtain ⟨_, m, hm, hf⟩ := hany
      unfold dropNewest
      have h1 : (q.reverse.eraseP (! ·.isFault)).length = q.reverse.length - 1 :=
        List.length_eraseP_of_mem (a := m) (List.mem_reverse.mpr hm) hf
      have h2 : 0 < q.length := List.length_pos_of_mem hm
      simp only [List.length_append, List.length_reverse, List.length_singleton, h1]
      omega
    · exact h

/-- A notice joins the queue by the rule of R30, and nothing else of the bus port changes but the frame in flight. -/
@[simp] theorem notice_bus (code : NoticeCode) (ch : NChan) (rq : Nat) (o : Option Order) (d : Half) (s : State) :
    (notice code ch rq o d s).bus.notices
        = queueNotice { code := code, chan := ch, requester := rq, order := o, detail := d } s.bus.notices
      ∧ (notice code ch rq o d s).bus.err = s.bus.err ∧ (notice code ch rq o d s).bus.beaconSlot = s.bus.beaconSlot
      ∧ (notice code ch rq o d s).bus.drawSlot = s.bus.drawSlot
      ∧ (notice code ch rq o d s).bus.txErrors = s.bus.txErrors := by
  unfold notice pushNotice
  simp only [State.onBus_bus]
  split <;> simp [Bus.unlive]

/-- A fault that joins the list is in it, as its newest entry (R151). -/
theorem mem_joinFault (f : ActiveFault) (l : List ActiveFault) : f ∈ joinFault f l := by
  simp [joinFault]

/-- Any other entry of the list stays. -/
theorem mem_joinFault_of_ne {f g : ActiveFault} {l : List ActiveFault} (h : f.same g = false) (hg : g ∈ l) :
    g ∈ joinFault f l := by
  simp [joinFault, hg, h]

/-- A raised fault is listed (R151). -/
theorem raiseFault_listed (k : FaultKind) (ch : NChan) (d : Half) (s : State) :
    (raiseFault k ch d s).stop.faults = joinFault { kind := k, chan := ch, detail := d } s.stop.faults
      ∧ (raiseFault k ch d s).hasFault k = true := by
  have h : (raiseFault k ch d s).stop.faults = joinFault { kind := k, chan := ch, detail := d } s.stop.faults := by
    unfold raiseFault stopReport
    dsimp only
    split <;> simp
  exact ⟨h, by simp [State.hasFault, h, joinFault]⟩

/-- A fault notice leaves its fault listed. -/
theorem noticeFault_listed (k : FaultKind) (ch : NChan) (rq : Nat) (o : Option Order) (d : Half) (s : State) :
    (noticeFault k ch rq o d s).stop.faults = joinFault { kind := k, chan := ch, detail := d } s.stop.faults
      ∧ (noticeFault k ch rq o d s).hasFault k = true := by
  have h := raiseFault_listed k ch d (notice (.fault k) ch rq o d s)
  exact ⟨by simpa [noticeFault] using h.1, h.2⟩

/-- A kind that leaves the list is not listed. -/
@[simp] theorem dropKind_hasFault (k : FaultKind) (s : State) : (dropKind k s).hasFault k = false := by
  simp [State.hasFault, dropKind, dropFaults]

/-- Other kinds stay listed. -/
theorem dropKind_other {k j : FaultKind} (h : j ≠ k) (s : State) : (dropKind k s).hasFault j = s.hasFault j := by
  simp only [State.hasFault, dropKind, dropFaults, State.onStop_stop, List.any_filter]
  congr 1
  funext f
  by_cases hf : f.kind = j <;> simp [hf, h]

/-! ### The press list (R47) -/

/-- The list never grows past eight. -/
theorem enterPress_length {k : PressKey} {held running : Bool} {l : List Press} (h : l.length ≤ Config.pressMax) :
    (enterPress k held running l).length ≤ Config.pressMax := by
  have hp : 0 < Config.pressMax := by decide
  unfold enterPress makeRoom
  simp only [List.length_append, List.length_singleton]
  split
  · omega
  · split
    · rename_i hany
      obtain ⟨p, hm, hr⟩ := List.any_eq_true.mp hany
      rw [List.length_eraseP_of_mem (a := p) hm hr]
      omega
    · rw [List.length_tail]; omega

/-- Spending changes no key and no length. -/
@[simp] theorem spend_length (k : PressKey) (l : List Press) :
    (spendKey k l).length = l.length ∧ (spendAll l).length = l.length := by
  simp [spendKey, spendAll]

/-- After all are spent none is RUNNING. -/
theorem spendAll_spent {l : List Press} : ∀ p ∈ spendAll l, p.running = false := by
  intro p hp
  obtain ⟨q, _, rfl⟩ := List.mem_map.mp hp
  rfl

/-- A touched list has the length it had. -/
theorem touchPress_length (k : PressKey) (l : List Press) : (touchPress k l).length = l.length := by
  unfold touchPress
  split
  · rfl
  · rename_i p hp
    have hm : p ∈ l := List.mem_of_find?_eq_some hp
    have hk : (decide (p.key = k)) = true := by simpa using List.find?_some hp
    have h2 : 0 < l.length := List.length_pos_of_mem hm
    have h3 : (l.eraseP fun q => decide (q.key = k)).length = l.length - 1 := List.length_eraseP_of_mem (a := p) hm hk
    simp only [List.length_append, List.length_singleton]
    omega

/-! ### The peer table (R33, R35) -/

/-- A station's own entry after it is put in the table. -/
theorem findPeer_putPeer (p : Peer) : ∀ l : List Peer, findPeer (putPeer l p) p.station = some p
  | [] => by simp [putPeer, findPeer]
  | q :: rest => by
    unfold putPeer
    split
    · simp [findPeer]
    · split
      · simp [findPeer]
      · rename_i h1 h2
        have h3 : ¬ q.station = p.station := fun h => h2 h.symm
        simpa [findPeer, h3] using findPeer_putPeer p rest

/-- Every other station's entry is as before. -/
theorem findPeer_putPeer_ne {p : Peer} {st : Nat} (h : st ≠ p.station) :
    ∀ l : List Peer, findPeer (putPeer l p) st = findPeer l st
  | [] => by simp [putPeer, findPeer, Ne.symm h]
  | q :: rest => by
    unfold putPeer
    split
    · simp [findPeer, Ne.symm h]
    · split
      · rename_i h2
        have h3 : ¬ q.station = st := by rw [← h2]; exact Ne.symm h
        simp [findPeer, Ne.symm h, h3]
      · have ih := findPeer_putPeer_ne h rest
        simp only [findPeer, List.find?_cons] at ih ⊢
        split
        · rfl
        · exact ih

/-- Putting an entry in the table keeps its stations rising. -/
theorem putPeer_rises {lo : Nat} (p : Peer) (h : lo ≤ p.station) :
    ∀ {l : List Peer}, peersRise lo l = true → peersRise lo (putPeer l p) = true
  | [], _ => by simp [putPeer, peersRise, h]
  | q :: rest, hl => by
    simp only [peersRise, Bool.and_eq_true, decide_eq_true_eq] at hl
    unfold putPeer
    split
    · rename_i hlt
      simp only [peersRise, Bool.and_eq_true, decide_eq_true_eq]
      exact ⟨h, hlt, hl.2⟩
    · split
      · rename_i heq
        simp only [peersRise, Bool.and_eq_true, decide_eq_true_eq]
        exact ⟨h, by rw [heq]; exact hl.2⟩
      · rename_i h1 h2
        simp only [peersRise, Bool.and_eq_true, decide_eq_true_eq]
        exact ⟨hl.1, putPeer_rises p (by omega) hl.2⟩
termination_by structural l => l

/-- Changing an entry in place keeps the stations rising. -/
theorem mapPeer_rises (st : Nat) (f : Peer → Peer) {lo : Nat} :
    ∀ {l : List Peer}, peersRise lo l = true → peersRise lo (mapPeer st f l) = true
  | [], _ => rfl
  | q :: rest, hl => by
    simp only [peersRise, Bool.and_eq_true, decide_eq_true_eq] at hl
    have hq : (if q.station = st then { f q with station := q.station } else q).station = q.station := by
      split <;> rfl
    simp only [mapPeer, List.map_cons, peersRise, Bool.and_eq_true, decide_eq_true_eq, hq]
    exact ⟨hl.1, mapPeer_rises st f hl.2⟩
termination_by structural l => l

/-! ### Receiving a frame (R7, R23, R24) -/

/-- All that a frame can do to the node. -/
theorem receive_cases (frame : Instr) (k : Kind) (source : Nat) (take : State → State) (s : State) :
    receive frame k source take s = s ∨ receive frame k source take s = wake .bus 0 s.inp s
      ∨ receive frame k source take s = receivedWhole s
      ∨ receive frame k source take s = (receivedWhole s).onStore (fun st => { st with held := st.held ++ [frame] })
      ∨ receive frame k source take s = take (receivedWhole s) := by
  unfold receive
  dsimp only
  split
  · exact .inl rfl
  · split
    · exact .inr (.inl rfl)
    · split
      · exact .inl rfl
      · split
        · exact .inr (.inr (.inl rfl))
        · split
          · exact .inr (.inr (.inr (.inl rfl)))
          · exact .inr (.inr (.inr (.inr rfl)))

end Sys2Proof.Machine
end

