-- ==== Sys2Proof/WellFormed.lean ====
section
/-! DEFINITION. Which commands are well formed: every station operand is a station number of R173 or a
source station of an 11-bit identifier, every reading lies in the range of its sense (chapter 0), and a
raw frame has the data its length code announces. The meanings are total: they do not lean on this. -/

namespace Sys2Proof

/-- A source station is the seven low bits of an identifier (R173). -/
def sourceOk (n : Nat) : Bool := n < 128

/-- A peer station is a motion station (chapter 0). -/
def motionStation (n : Nat) : Bool := n ≤ 5 || (8 ≤ n && n ≤ 13) || (16 ≤ n && n ≤ 17)

/-- The supply sense ranges over 0 to 18,000 mV (chapter 0). -/
def vsOk (mv : Nat) : Bool := mv ≤ 18000

/-- The inputs of one sample are readings of their senses. -/
def inputsOk (i : Inputs) : Bool := vsOk i.vs

/-- A press list entry holds one of the orders R47 enters. -/
def pressOrder : Order → Bool
  | .extend | .retract | .level | .stow | .runPlan => true
  | .halt | .clear | .sleep => false

/-- A data frame has as many bytes as its length code says, at most eight; a remote frame has none. -/
def rawOk (f : RawFrame) : Bool :=
  f.data.length = if f.remote then 0 else min f.dlc.toNat 8

/-- Well-formedness of a command. -/
def wellFormed : Instr → Bool
  | .powerOn inp => inputsOk inp
  | .supplyBelowRange => true
  | .nrstLow => true
  | .nrstHigh inp => inputsOk inp
  | .calibrationWrite src _ _ => sourceOk src
  | .calibrationProgrammingDone => true
  | .calibrationLock src _ inp => sourceOk src && inputsOk inp
  | .identityQuery src _ => sourceOk src
  | .restartRequest src _ inp => sourceOk src && inputsOk inp
  | .idleCurrentFail _ => true
  | .listenWindowEnd => true
  | .postureBeacon src _ => sourceOk src
  | .drawNotice src _ => sourceOk src
  | .beaconAgeStale st => motionStation st
  | .beaconAgeLost st => motionStation st
  | .claimLapse st => motionStation st
  | .stopCall src _ _ => sourceOk src
  | .extend r => sourceOk r.source
  | .retract r => sourceOk r.source
  | .level r => sourceOk r.source
  | .stow r => sourceOk r.source
  | .halt r => sourceOk r.source
  | .clear r _ _ => sourceOk r.source
  | .sleep r => sourceOk r.source
  | .runPlan r => sourceOk r.source
  | .protectRequest src _ => sourceOk src
  | .frameNotTaken f => rawOk f
  | .transmitStart => true
  | .transmitComplete => true
  | .arbitrationLost => true
  | .transmitError _ => true
  | .receiveError => true
  | .offPeriodEnd => true
  | .busRejoin inp => inputsOk inp
  | .beaconDue => true
  | .drawNoticeDue => true
  | .standbyTimeout => true
  | .pressEntryLapse k => sourceOk k.panel && pressOrder k.order
  | .holdExpiry => true
  | .conflictQuietEnd => true
  | .reversalDwellEnd => true
  | .stepTimeout => true
  | .dutyStep => true
  | .wallTimeLimit => true
  | .encoderPulse _ => true
  | .coastWindowClose _ => true
  | .homeSwitchClose _ => true
  | .outSwitchClose _ => true
  | .switchOpen _ _ => true
  | .footSwitchClose => true
  | .footSwitchOpen => true
  | .stall _ => true
  | .retryPauseEnd _ => true
  | .overcurrentTrip _ _ => true
  | .settleWindowEnd => true
  | .supplySenseReading mv => vsOk mv
  | .lowSupplyTimeout => true
  | .temperatureReading _ => true
  | .inclinometerReading _ => true
  | .contactCurrent => true
  | .footingWaitExpiry => true
  | .missingTimerExpiry => true
  | .settleTimeEnd => true
  | .trimDwellComplete => true
  | .rackTimerExpiry => true
  | .graceExpiry => true
  | .anemPulse => true
  | .windWindowComplete => true
  | .holdOffEnd => true
  | .stopLineFall => true
  | .stopLineRise => true
  | .stopPulseEnd => true
  | .roadRelease => true
  | .parkAssert => true
  | .idleTimeReached => true
  | .poll inp => inputsOk inp
  | .wakeStopLine inp => inputsOk inp
  | .wakeBus inp => inputsOk inp

end Sys2Proof
end

