-- ==== Sys2Proof/Tests/Slice0.lean ====
section
/-! SUPPORT. Tests of the model: WellFormed's checks, figures the manual works out, one step of a command each, and for
every statement with hypotheses a state and operands that meet all of them. -/

open Sys2Proof Sys2Proof.Machine

namespace Sys2Proof.Tests

/-! ### States and operands the tests start from -/

/-- A channel block: 100 pulses of travel, a claim of 30, a trip of 40, an allowance of 60 s, two retries. -/
def chanCal : ChanCal :=
  { ChanCal.blank with pMax := 100, claim := 30, trip := 40, allowance := 60, retryCode := 1, latchedOk := true,
                       homeToSupply := true, outToSupply := true }

/-- A record of a coach with jacks 0 and 1, slide 8 and awning 16. -/
def record : Cal :=
  { Cal.blank with
    jacks := 3, slides := 1, awnings := 1, bTotal := 100, nPromote := 2, vDroop := 11400, vFloor := 10500,
    stopMask := 0x1014, idleMinutes := 10, wR := 30, tol := 20, deadband := 3, sMax := 400, contact := 20,
    syncBand := 6, rLim := 40, chA := chanCal, chB := chanCal,
    jackTable := [some (4000, -1100), some (-4000, 1000), none, none, none, none],
    plans :=
      [{ policy := 0, timeout := 120, steps := [⟨3, 0x1000⟩, ⟨1, 3⟩] }, { policy := 1, timeout := 20, steps := [⟨3, 0x1000⟩] }] }

/-- One sample of sound inputs: switches open, 12.6 V, 20 °C, PARK asserted. -/
def sample : Inputs := { blankInputs with vs := 12600, temp := 20, parkAsserted := true, tilt := some (5, -3) }

/-- A node at rest in RUN, on the bus, halfway out. -/
def nodeAt (r : Role) (station : Nat) : State :=
  { State.reset with
    node := { State.reset.node with mode := .run, role := r, station := station, vbatLow := false, supplyUp := true }
    cal := record
    inp := sample
    bus := { Bus.fresh with err := .active, beaconTimer := some 0 }
    road := { Road.fresh with park := some true }
    supply := { Supply.fresh with droop := 100 }
    chA := { Channel.fresh with cls := .partway, count := 50 }
    chB := { Channel.fresh with cls := .partway, count := 50 } }

def jack : State := nodeAt .jack 0
def slide : State := nodeAt .slide 8
def awning : State := (nodeAt .awning 16).onWind fun w => { w with window := some 0 }

/-- The node in another mode. -/
def inMode (m : Mode) (s : State) : State := s.onNode fun n => { n with mode := m }

/-- A jack's beacon contents. -/
def jackBody (phase : Phase) (contact : Bool) : BeaconBody := .jack phase false false false contact .idle .partway (-5) 7 300

/-- A peer entry of jack 1, FRESH. -/
def peer (body : BeaconBody) (standing : Freshness) (claim : Option ClaimRec) : Peer :=
  { station := 1, beacon := { ready := true, retiring := false, roadAlarm := false, wake := .none, fault := none, body := body },
    act := body.activity, prev := none, age := 0, fresh := standing, claim := claim }

/-- With jack 1 in the peer table. -/
def hearing (p : Peer) (s : State) : State := s.onPeers fun _ => [p]

/-- A press of panel 41, token 7. -/
def press (target mode argument : Byte) : MotionReq := { source := 41, target := target, mode := mode, token := 7, argument := argument }

/-- The channel drives an order. -/
def drives (d : Dir) (origin : Origin) (duty : Nat) (c : Channel) : Channel :=
  { c with act := .driving, order := some { origin := origin, dir := d, age := 0 }, applied := duty, stall := some 0, drvDir := d }

/-- The node's order, with its claim decided at a full cap. -/
def withOrder (t : Task) (origin : Origin) (k : Option PressKey) (s : State) : State :=
  (s.onOrders fun u => { u with cur := some { task := t, origin := origin, panel := 41, press := k, override := false } }).onSupply
    fun u => { u with claim := some { amount := 30, baseClass := 1, standing := .decided, settle := 200 }, cap := 100 }

/-- An awning that drives a HELD order of panel 41. -/
def moving (o : Order) (t : Task) (d : Dir) : State :=
  let key : PressKey := { panel := 41, order := o, token := 7 }
  (((withOrder t .held (some key) awning).onChA (drives d .held 60)).setStep (some { duty := 60, age := 0 })).onOrders
    fun u => { u with hold := some { panel := 41, order := o, token := 7, age := 100 },
                      presses := [{ key := key, held := true, running := true, age := 100 }] }

/-- The hold and the press entries are 1 ms past their time. -/
def unrenewed (s : State) : State :=
  s.onOrders fun u => { u with hold := u.hold.map fun h => { h with age := 251 },
                               presses := u.presses.map fun p => { p with age := 251 } }

/-- A driving jack. -/
def jackDrives (t : Task) (d : Dir) : State :=
  ((withOrder t .latched none jack).onChA (drives d .latched 60)).setStep (some { duty := 60, age := 0 })

/-- A slide that drives both rams. -/
def slideDrives (d : Dir) : State :=
  (((withOrder (if d = .extend then .extend else .retract) .held none slide).onChA (drives d .held 60)).onChB
    (drives d .held 60)).setStep (some { duty := 60, age := 0 })

/-- A jack in a level phase, with a leg or without. -/
def levelling (p : Phase) (leg : Option LegKind) (s : State) : State := s.onLevel fun l => { l with phase := p, leg := leg }

/-- A listed fault. -/
def faulted (k : FaultKind) (d : Half) (s : State) : State := s.onStop fun u => { u with faults := [{ kind := k, chan := .a, detail := d }] }

/-- The controller OFF. -/
def offBus (s : State) : State := s.onBus fun b => { b with err := .off, beaconTimer := none, offTimer := some 400 }

/-- A frame being sent. -/
def sending (kind : Nat) (data : List Byte) (s : State) : State :=
  s.onBus fun b => { b with tx := some { kind := kind, ident := kind * 128 + s.node.station, data := data, live := true } }

/-- A write of four bytes in progress. -/
def programming (a : Nat) (s : State) : State := s.onStore fun st => { st with prog := some (a, [1, 2, 3, 4]) }

/-- A plan cursor. -/
def planning (plan : Nat) (part : Part) (s : State) : State :=
  s.onOrders fun u => { u with cursor := some { plan := plan, step := 0, age := 0, part := part, panel := 41, token := 7, skipped := false } }

/-- The command runs and its next state satisfies `p`. -/
def after (c : Instr) (s : State) (p : State → Bool) : Bool :=
  match exec c s with
  | .next t => p t
  | _ => false
/-- The contents of a beacon with nothing to report but its body. -/
def told (body : BeaconBody) : Beacon :=
  { ready := true, retiring := false, roadAlarm := false, wake := .none, fault := none, body := body }

/-- The beacons of a slide and of an awning at rest. -/
def slideBody (cls : PosClass) : BeaconBody := .slide .idle .idle cls 0 0 0
def awningBody (cls : PosClass) : BeaconBody := .awning .idle cls 0 255 false false

/-- The beacon of a jack in LIFTING that reports a pitch. -/
def pitched (p : Int) (limit : Bool) : BeaconBody := .jack .lifting false false limit true .idle .partway p 0 300

/-- A peer entry of any station, FRESH. -/
def entry (station : Nat) (body : BeaconBody) : Peer := { peer body .fresh none with station := station }

/-- Jack 0 in LIFTING, its leg driving, with jack 1 heard at the same pitch. -/
def lifting (p : Int) (count : Nat) : State :=
  hearing (entry 1 (pitched p false))
    (((levelling .lifting (some .lift) (jackDrives .level .extend)).onChA fun c => { c with count := count }).onLevel
      fun l => { l with pitch := p })

/-- Auto-stow is set in the record. -/
def autoStow (s : State) : State := s.setCal { record with autoStow := true }

/-- A road stow under way, PARK released. -/
def stowing (s : State) : State :=
  ((withOrder .roadStow .auto none (autoStow s)).onChA (drives .retract .auto 60)).onRoad
    fun r => { r with park := some false, alarm := true, stow := .running }

/-- A record whose first plan names awning 16 and jack 0 in one step with this action. -/
def planRecord (action : Nat) : Cal := { record with plans := [{ policy := 0, timeout := 120, steps := [⟨action, 0x1001⟩] }] }

/-- The running retract part of that plan. -/
def retracting (s : State) : State :=
  planning 0 .running
    (((withOrder .retract .plan none s).onChA (drives .retract .plan 60)).setCal (planRecord 3))


/-- A record whose only written bytes are its CRC: the least that CALIBRATION LOCK takes (R9). -/
def lockable : Store := { cells := [(254, 0x02), (255, 0x02)], locked := false, prog := none, held := [] }

/-- A record with one byte written, whose CRC does not match. -/
def mislaid : Store := { lockable with cells := [(255, 0x07)] }

/-- A locked record that is valid on awning 16, its mandatory fields and its CRC written (R174). -/
def campRecord : Store :=
  { cells := [(0, 0), (1, 0), (2, 1), (12, 0), (14, 0), (15, 0), (16, 0), (17, 30), (32, 0), (33, 100), (34, 30), (35, 40),
              (36, 60), (37, 1), (38, 2), (254, 0xB9), (255, 0x97)]
    locked := true, prog := none, held := [] }

/-! ### CRCs of whole records, in parts -/

/-- A run of bytes is read in two parts. -/
theorem readRun_add (st : Store) (m n : Nat) : ∀ a, st.readRun a (m + n) = st.readRun a m ++ st.readRun (a + m) n := by
  induction m with
  | zero => simp [Store.readRun]
  | succ m ih =>
    intro a
    rw [show m + 1 + n = (m + n) + 1 by omega, show a + (m + 1) = a + 1 + m by omega]
    simp [Store.readRun, ih]

/-- 32 unwritten bytes into the CRC register. -/
def ones32 (c : Half) : Half := (List.replicate 32 0xFF#8).foldl crcByte c

/-- A run of unwritten bytes is taken 32 at a time. -/
theorem ones_add (n : Nat) (c : Half) :
    (List.replicate (32 + n) 0xFF#8).foldl crcByte c = (List.replicate n 0xFF#8).foldl crcByte (ones32 c) := by
  rw [← List.replicate_append_replicate, List.foldl_append]
  rfl

/-- The CRC of 254 unwritten bytes. -/
theorem crc_ones : crc (List.replicate 254 0xFF#8) = 0x0202#16 := by
  have h1 : ones32 0xFFFF#16 = 0x75F8#16 := by decide +kernel
  have h2 : ones32 0x75F8#16 = 0xF154#16 := by decide +kernel
  have h3 : ones32 0xF154#16 = 0x003A#16 := by decide +kernel
  have h4 : ones32 0x003A#16 = 0x1DA3#16 := by decide +kernel
  have h5 : ones32 0x1DA3#16 = 0xEFB5#16 := by decide +kernel
  have h6 : ones32 0xEFB5#16 = 0x12C3#16 := by decide +kernel
  have h7 : ones32 0x12C3#16 = 0xC245#16 := by decide +kernel
  have h8 : (List.replicate 30 0xFF#8).foldl crcByte 0xC245#16 = 0x0202#16 := by decide +kernel
  change (List.replicate (32 + (32 + (32 + (32 + (32 + (32 + (32 + 30))))))) 0xFF#8).foldl crcByte 0xFFFF#16 = _
  rw [ones_add, h1, ones_add, h2, ones_add, h3, ones_add, h4, ones_add, h5, ones_add, h6, ones_add, h7, h8]

/-- The computed CRC of `lockable` is the stored one. -/
theorem lockable_crcOk : lockable.crcOk = true := by
  have h : lockable.readRun 0 254 = List.replicate 254 0xFF#8 := by decide +kernel
  unfold Store.crcOk Store.crc
  rw [h, crc_ones]
  decide

/-- A blank store that is locked does not match. -/
theorem blank_not_crcOk : ({ cells := [], locked := true, prog := none, held := [] } : Store).crcOk = false := by
  have h : ({ cells := [], locked := true, prog := none, held := [] } : Store).readRun 0 254 = List.replicate 254 0xFF#8 := by
    decide +kernel
  unfold Store.crcOk Store.crc
  rw [h, crc_ones]
  decide

/-- The computed CRC of `campRecord` is the stored one. -/
theorem campRecord_crcOk : campRecord.crcOk = true := by
  have h0 : (campRecord.readRun 0 39).foldl crcByte 0xFFFF#16 = 0xD08A#16 := by decide +kernel
  have h : campRecord.readRun 39 215 = List.replicate (32 + (32 + (32 + (32 + (32 + (32 + 23)))))) 0xFF#8 := by decide +kernel
  have h1 : ones32 0xD08A#16 = 0x34F4#16 := by decide +kernel
  have h2 : ones32 0x34F4#16 = 0xA24F#16 := by decide +kernel
  have h3 : ones32 0xA24F#16 = 0xDC4C#16 := by decide +kernel
  have h4 : ones32 0xDC4C#16 = 0x0DC8#16 := by decide +kernel
  have h5 : ones32 0x0DC8#16 = 0xC197#16 := by decide +kernel
  have h6 : ones32 0xC197#16 = 0x6DEC#16 := by decide +kernel
  have h7 : (List.replicate 23 0xFF#8).foldl crcByte 0x6DEC#16 = 0xB997#16 := by decide +kernel
  unfold Store.crcOk Store.crc crc
  rw [show (254 : Nat) = 39 + 215 from rfl, readRun_add, List.foldl_append, h0, Nat.zero_add, h, ones_add, h1, ones_add, h2,
    ones_add, h3, ones_add, h4, ones_add, h5, ones_add, h6, h7]
  decide

/-- The computed CRC of `mislaid` is not the stored one. -/
theorem mislaid_not_crcOk : mislaid.crcOk = false := by
  have h : mislaid.readRun 0 254 = List.replicate 254 0xFF#8 := by decide +kernel
  unfold Store.crcOk Store.crc
  rw [h, crc_ones]
  decide

/-! ### WellFormed refuses an ill-formed term at each of its checks -/

theorem test_wf_source : wellFormed (.extend { press 0 0 0 with source := 128 }) = false := by decide
theorem test_wf_station_low : wellFormed (.beaconAgeStale 6) = false := by decide
theorem test_wf_station_mid : wellFormed (.beaconAgeLost 14) = false := by decide
theorem test_wf_station_high : wellFormed (.claimLapse 18) = false := by decide
theorem test_wf_supply : wellFormed (.supplySenseReading 18001) = false := by decide
theorem test_wf_inputs : wellFormed (.powerOn { sample with vs := 18001 }) = false := by decide
theorem test_wf_press_order : wellFormed (.pressEntryLapse { panel := 41, order := .halt, token := 0 }) = false := by decide
theorem test_wf_raw_short :
    wellFormed (.frameNotTaken { ident := 0x20B, remote := false, dlc := 8, data := [0] }) = false := by decide
theorem test_wf_raw_remote : wellFormed (.frameNotTaken { ident := 0, remote := true, dlc := 1, data := [0] }) = false := by
  decide
/-- Well-formed terms at the ends of the same ranges. -/
theorem test_wf_accepts :
    (wellFormed (.extend { press 0 0 0 with source := 127 }) && wellFormed (.beaconAgeStale 5) && wellFormed (.claimLapse 17)
      && wellFormed (.supplySenseReading 18000)
      && wellFormed (.frameNotTaken { ident := 0, remote := true, dlc := 1, data := [] })) = true := by
  decide

/-! ### Figures the manual works out -/

/-- The check value that R8 gives for "123456789". -/
theorem test_crc_check_value : crc [0x31, 0x32, 0x33, 0x34, 0x35, 0x36, 0x37, 0x38, 0x39] = 0x29B1#16 := by decide +kernel

/-- R18: DRAW NOTICE, beacon and identity reply identifiers of section 2.1. -/
theorem test_identifiers : identOf .postureBeacon 11 = 523 ∧ identOf .identityReply 127 = 1279 := by decide

/-- R73's examples of the per-mille position. -/
theorem test_per_mille :
    perMille { Channel.fresh with cls := .partway, count := 1396 } 2400 = 581
      ∧ perMille { Channel.fresh with cls := .partway, count := 2399 } 2400 = 999 ∧ classOfCount 2399 2400 = .partway := by
  decide

/-- Sections 6.9 and 6.10: budget caps of 40, 100, 80, 50 and 0. -/
theorem test_budget_caps :
    budgetCap 24 60 = 40 ∧ budgetCap 104 60 = 100 ∧ budgetCap 40 50 = 80 ∧ budgetCap 40 80 = 50 ∧ budgetCap (200 - 210) 50 = 0
      ∧ budgetCap 70 50 = 100 := by
  decide

/-- Section 6.10, step 3: awning 17, promoted, ranks ahead of awning 16 and behind the jacks. -/
theorem test_promotion :
    (rankKey 2 3 2 17).ahead (rankKey 2 3 0 16) = true ∧ (rankKey 2 1 0 2).ahead (rankKey 2 3 2 17) = true
      ∧ (rankKey 2 3 0 16).ahead (rankKey 2 3 0 17) = true := by
  decide

/-- Section 6.9: V_s of 11,000 mV gives a droop cap of 55, 11,450 mV one of 100. -/
theorem test_droop :
    after (.supplySenseReading 11000) awning (·.supply.droop = 55) = true
      ∧ after (.supplySenseReading 11450) awning (·.supply.droop = 100) = true := by
  decide

/-- Section 7.8: the means and the lower medians of jack 0's view. -/
theorem test_attitude :
    meanRound [-150, -153, -151, -154] = -152 ∧ meanRound [57, 58, 59, 58] = 58
      ∧ lowerMedian [-152, -148, -150, -161] = -152 ∧ lowerMedian [58, 60, 61, 63] = 60
      ∧ lowerMedian [-68, -66, -71, -64] = -68 := by
  decide

/-- Section 7.8: the corner heights at P −152, Q 60. -/
theorem test_corner_heights :
    cornerHeight (-152) 60 (4000, -1100) = -118 ∧ cornerHeight (-152) 60 (4000, 1100) = -95
      ∧ cornerHeight (-152) 60 (-4000, -1100) = 95 ∧ cornerHeight (-152) 60 (-4000, 1100) = 118 := by
  decide

/-- Section 8.6: the leading ram's requests at u 80 for m of 7, 12 and 13, band 6 and limit 40. -/
theorem test_squaring :
    ([7, 12, 13].map fun m =>
        (((slideDrives .extend).onSupply fun u => { u with cap := 80 }).onChA fun c => { c with count := 50 + m }).squareRequest .a)
      = [77, 65, 63] := by
  decide

/-- Section 13's example: the target masks 0280h and 1000h. -/
theorem test_masks :
    ([0, 1, 8, 9, 10, 11, 16].filter (inMask 0x0280)) = [9, 11] ∧ ([0, 8, 13, 16, 17].filter (inMask 0x1000)) = [16] := by
  decide

/-- R2: the straps of each role, and those that give no station. -/
theorem test_straps :
    decodeStraps { sample with roleStrap := 1, idxStrap := 3 } = (.slide, some 11)
      ∧ decodeStraps { sample with roleStrap := 2, idxStrap := 2 } = (.awning, none)
      ∧ decodeStraps { sample with roleStrap := 3, idxStrap := 0 } = (.invalid, none) := by
  decide

/-- Section 1.11: a write at 252 fits, one at 253 does not. -/
theorem test_write_offsets :
    after (.calibrationWrite 41 { target := 0, offset := 252, d0 := 1, d1 := 2, d2 := 3, d3 := 4, tag := 9 } true)
        (inMode .setup jack) (·.store.prog = some (252, [1, 2, 3, 4])) = true
      ∧ after (.calibrationWrite 41 { target := 0, offset := 253, d0 := 1, d1 := 2, d2 := 3, d3 := 4, tag := 9 } true)
        (inMode .setup jack) (·.bus.notices.map (·.code) = [.refusal .notPermitted]) = true := by
  decide

/-! ### One step each -/

/-- The record of `campRecord` is valid on awning 16, and read with the defaults of R174; a slide finds no fields of its
own in it (R4). -/
theorem test_record_fields :
    recordValid campRecord .awning 16 = true ∧ recordValid campRecord .slide 8 = false
      ∧ (readCal campRecord).bTotal = 240 ∧ (readCal campRecord).vDroop = 11400 ∧ (readCal campRecord).chA.pMax = 100 := by
  decide

/-- The part code, revision and station of an identity reply (R15, R173). -/
theorem test_identity :
    after (.identityQuery 41 255) awning (·.bus.identity = some [0x3A, 0x01, 0xAE, 0x28, 16, 0xFF, 0xFF, 0x60]) = true := by
  decide

/-- A restart brings a driving node to rest in LISTEN (R13). -/
theorem test_restart :
    after (.restartRequest 41 16 sample) (moving .extend .extend .extend)
      (fun t => t.node.mode = .listen && t.chA.act ≠ .driving && t.orders.cur.isNone) = true := by
  decide

/-- LISTEN runs out into RUN (R11). -/
theorem test_listen_end :
    after .listenWindowEnd ((inMode .listen jack).onNode fun n => { n with listen := some 600 }) (·.node.mode = .run) = true := by
  decide

/-- A jack's beacon: pitch −5 and roll 7 cdeg, stroke 300 mm, STABLE with CONTACT (R27, R173). -/
theorem test_beacon :
    after (.postureBeacon 1 ⟨0x20, 0x00, 0xA2, 0x11, 0xFF, 0xB0, 0x07, 0x2C⟩) jack
      (fun t => t.peers.map (·.beacon.body) = [jackBody .stable true]) = true := by
  decide

/-- A HELD press on a resting awning waits for admission (R52, R69, R88). -/
theorem test_extend :
    after (.extend (press 16 0 0)) awning (fun t => t.chA.act = .waiting && t.supply.claim.isSome && t.orders.hold.isSome) = true := by
  decide

/-- Check 3 comes before check 4 (R49). -/
theorem test_check_order :
    after (.extend (press 16 0 0)) ((awning.onStop fun u => { u with sensedLow := true }).onRoad fun r => { r with park := some false })
      (·.bus.notices.map (·.code) = [.refusal .stopActive]) = true := by
  decide

/-- A HALT leaves a driving channel HALTED and its press SPENT (R59). -/
theorem test_halt :
    after (.halt (press 255 0 0)) (moving .extend .extend .extend)
      (fun t => t.chA.act = .halted && t.orders.presses.all (! ·.running)) = true := by
  decide

/-- SLEEP at rest enters WATCH with a retiring beacon (R61, R28). -/
theorem test_sleep :
    after (.sleep (press 255 1 0)) awning
      (fun t => t.node.mode = .watch && (match t.bus.beaconSlot with | .retiring _ => true | _ => false)) = true := by
  decide

/-- Section 9.5: three high windows raise the retract, with claim class 0. -/
theorem test_wind_retract :
    after .windWindowComplete ((awning.setCal { record with windSource := true, wR := 40 }).onWind fun x => { x with pulses := 52, highRun := 2 })
      (fun t => t.supply.claim.map (·.baseClass) = some 0 && t.bus.notices.map (·.detail) = [52]) = true := by
  decide

/-- Section 9.5: a window below W_r ends the run. -/
theorem test_wind_run_ends :
    after .windWindowComplete ((awning.setCal { record with windSource := true, wR := 40 }).onWind fun x => { x with pulses := 36, highRun := 3 })
      (·.wind.highRun = 0) = true := by
  decide

/-- Section 5.8: at count 896 of 2400 a stall is a retry. -/
theorem test_stall_retries :
    after (.stall .a) (((moving .retract .retract .retract).setCal { record with chA := { chanCal with pMax := 2400 } }).onChA
      fun c => { c with count := 896 }) (fun t => t.chA.act = .paused && t.chA.retries = 1) = true := by
  decide

/-- Section 5.8: in the end zone of 120 counts it is the end of travel. -/
theorem test_stall_ends :
    after (.stall .a) (((moving .retract .retract .retract).setCal { record with chA := { chanCal with pMax := 2400 } }).onChA
      fun c => { c with count := 120 }) (fun t => t.chA.act = .idle && t.chA.cls = .stowed) = true := by
  decide

/-- Section 5.8, variant: the step to 300,050 faults with TRAVEL_TIME at an allowance of 30 s. -/
theorem test_travel_time :
    after .dutyStep ((((moving .retract .retract .retract).setCal { record with chA := { chanCal with allowance := 30 } }).onChA
      fun c => { c with acc := 299950 }).setStep (some { duty := 100, age := 10 }))
      (fun t => t.chA.fault = some (.travelTime, 0xFF07) && t.stop.drive = .none) = true := by
  decide

/-- Section 10.8: a reading of 118 at a trip of 100 faults the channel and pulls the line. -/
theorem test_overcurrent :
    after (.overcurrentTrip .a (.units 118)) ((jackDrives .level .extend).setCal { record with chA := { chanCal with trip := 100 } })
      (fun t => t.chA.act = .faulted && t.pullsStop && t.bus.stopCall = some (.overcurrent, .jack)) = true := by
  decide

/-- A pulse counts in the driven direction, and not past P_max (R72, R73). -/
theorem test_pulse :
    after (.encoderPulse .a) (moving .extend .extend .extend) (·.chA.count = 51) = true
      ∧ after (.encoderPulse .a) (awning.onChA fun c => { c with count := 100, cls := .deployed, coast := some (.extend, 5) })
          (·.chA.count = 100) = true := by
  decide

/-- The home switch ends a retract (R74). -/
theorem test_home_switch :
    after (.homeSwitchClose .a) (moving .retract .retract .retract) (fun t => t.chA.act = .idle && t.chA.cls = .stowed) = true := by
  decide

/-- Section 8.7: with B at 102 and A at 0 the rack time faults both rams, detail −102. -/
theorem test_rack :
    let s := (slideDrives .retract).setCal { record with chA := { chanCal with pMax := 2000 }, chB := { chanCal with pMax := 2000 } }
    let s := (s.onChA fun c => { c with count := 0, cls := .stowed }).onChB fun c => { c with count := 102 }
    after .rackTimerExpiry (s.onSquare fun q => { q with rack := some 1000 })
      (fun t => t.chA.fault = some (.rack, BitVec.ofInt 16 (-102)) && t.chB.act = .faulted) = true := by
  decide

/-- Section 12.5: a drift of 50 cdeg does not wake, 51 does. -/
theorem test_tilt_wake :
    let s := (inMode .watch jack).onWatch fun x => { x with poll := some 2000, snap := [{ kind := .tilt (-17) 8, polled := true }] }
    after (.poll { sample with tilt := some (-68, 9) }) s (fun t => t.node.mode = .listen && t.node.wokeBy = .tilt) = true
      ∧ after (.poll { sample with tilt := some (-67, 9) }) s (·.node.mode = .watch) = true := by
  decide

/-- Section 11.4: a road release halts nothing on a resting deployed awning, sets its alarm and notices DEPLOYED. -/
theorem test_road_release :
    after .roadRelease (awning.onChA fun c => { c with count := 100, cls := .deployed })
      (fun t => t.road.alarm && t.bus.notices.map (fun n => (n.code, n.detail)) = [(.event .roadRelease, 3)]) = true := by
  decide

/-- Section 11.4: with the lock set and PARK released an inhibit is not lowered, detail A. -/
theorem test_protect :
    after (.protectRequest 41 { target := 16, inhibitA := 0, inhibitB := 0, lock := 0 })
      (awning.onRoad fun r => { r with park := some false, inhibitA := .both, lock := true })
      (fun t => t.road.inhibitA = .both && t.bus.notices.map (fun n => (n.code, n.detail)) = [(.refusal .inhibited, 1)]) = true := by
  decide

/-- Section 2.5: the 32nd failure takes the controller OFF, the 16th makes it PASSIVE (R20). -/
theorem test_bus_off :
    after (.transmitError .signalled) (sending 1 [] (slide.onBus fun b => { b with err := .passive, txErrors := 248 })) (·.bus.err = .off) = true
      ∧ after (.transmitError .signalled) (sending 1 [] (slide.onBus fun b => { b with txErrors := 120 })) (·.bus.err = .passive) = true := by
  decide

/-- The STOP CALL goes before a beacon (R19). -/
theorem test_transmit :
    after .transmitStart (awning.onBus fun b => { b with beaconSlot := .pending, stopCall := some (.rack, .awning) })
      (fun t => t.bus.tx.map (·.data) = some [2, 2]) = true := by
  decide

/-- On an empty queue a step lets 1 ms pass; a beacon due at 100 ms then waits in the queue (R26, log 4). -/
theorem test_tick :
    (match step (jack.onBus fun b => { b with beaconTimer := some 99 }) with | .next t => t.pending | _ => []) = [.beaconDue] := by
  decide

/-- A waiting command runs first (chapter 0). -/
theorem test_step_front :
    (match step (jack.setPending [.stopLineFall, .beaconDue]) with
      | .next t => t.stop.sensedLow && t.pending = [.beaconDue]
      | _ => false) = true := by
  decide

/-- A RELEASE carries the yield count its claim had as it ended (R29, log 58). -/
theorem test_release_yield :
    after .holdExpiry (unrenewed ((moving .extend .extend .extend).onSupply fun u => { u with passes := 2 }))
      (fun t => t.bus.drawSlot = .release 30 1 2 && t.supply.passes = 0) = true := by
  decide

/-- A repeat taken first renews the hold, and the HOLD_EXPIRY and PRESS_ENTRY_LAPSE after it change nothing (R47, R53). -/
theorem test_repeat_before_expiry :
    after (.extend (press 16 0 0)) (unrenewed (moving .extend .extend .extend)) (fun t =>
      t.orders.hold.any (·.age = 0) && after .holdExpiry t (· = t)
        && after (.pressEntryLapse { panel := 41, order := .extend, token := 7 }) t (· = t)) = true := by
  decide

/-- An expiry taken first stops the order and removes the entry (R53). -/
theorem test_expiry_before_repeat :
    after .holdExpiry (unrenewed (moving .extend .extend .extend)) (fun t =>
      t.chA.act = .idle && t.orders.hold.isNone && t.orders.presses = []) = true := by
  decide

/-- A completed beacon with the wake cause TILT takes the cause out of the beacons, and leaves a start cause that a restart
kept from being carried (R1, R27, log 21). -/
theorem test_start_cause_kept :
    after .transmitComplete (sending 4 [0, 0x30] ((jack.onBus fun b => { b with wakeCause := .tilt }).onNode fun n =>
        { n with startCause := .powerOn }))
      (fun t => t.bus.wakeCause = .none && t.node.startCause = .powerOn) = true := by
  decide

/-- A MOTION REQUEST with order byte 9 is received whole; one with order byte 8 is its own row's command (R20, R46). -/
theorem test_undefined_order :
    let f (o : Byte) : RawFrame := { ident := 0x129, remote := false, dlc := 5, data := [255, o, 1, 7, 0] }
    let s := jack.onBus fun b => { b with rxErrors := 5 }
    after (.frameNotTaken (f 9)) s (·.bus.rxErrors = 4) = true ∧ after (.frameNotTaken (f 8)) s (·.bus.rxErrors = 5) = true := by
  decide

/-- A fall taken while the node itself holds the line LOW records the other source, and halts nothing (R147, log 59). -/
theorem test_second_source :
    after .stopLineFall (awning.onStop fun u => { u with sensedLow := true, drive := .pulsing })
      (fun t => t.inp.stopPulled && t.stop.sensedLow && t.chA.act = .idle) = true := by
  decide

/-- A step timeout finds a step that has not stood for the timeout, and fails nothing (R65). -/
theorem test_young_step :
    after .stepTimeout (planning 1 .notMine jack) (·.orders.cursor.isSome) = true := by
  decide

/-- A closing home switch is what the poll then reads (R168). -/
theorem test_switch_sample :
    after (.homeSwitchClose .a) (awning.onInp fun x => { x with homeA := false }) (·.inp.homeA) = true := by
  decide

/-- A jack that presses on the ground is not stalled (R79). -/
theorem test_pressing :
    after (.stall .a) ((levelling .footing (some .foot) (jackDrives .level .extend)).onInp fun x => { x with isnsA := .units 20 })
      (fun t => t.chA.act = .driving && t.chA.stall = some 0) = true := by
  decide

/-- A ram that rests keeps its rest when its partner alone runs out of supply (R128, log 40). -/
theorem test_one_ram :
    let s := (slideDrives .extend).onChB fun c => { c with act := .idle, order := none, applied := 0 }
    after .lowSupplyTimeout (s.onSupply fun u => { u with low := some (500, 10499) })
      (fun t => t.chA.act = .faulted && t.chB.act = .idle) = true := by
  decide

/-- A failed idle-current check is noticed on a channel already FAULTED with OVERCURRENT (R12, log 25). -/
theorem test_idle_current_again :
    after (.idleCurrentFail .a) ((inMode .listen (faulted .overcurrent 41 awning)).onChA fun c =>
        { c with act := .faulted, fault := some (.overcurrent, 41) })
      (fun t => t.stop.faults.map (·.detail) = [0xFF02] && t.bus.notices.map (·.code) = [.fault .overcurrent]) = true := by
  decide

/-- A jack barred from a plan's step is noticed at the step's first beginning alone (R63). -/
theorem test_barred_once :
    let s := jack.setCal { record with plans := [{ policy := 1, timeout := 20, steps := [⟨2, 1⟩] }] }
    let r : MotionReq := { press 255 1 0 with token := 8 }
    after (.runPlan (press 255 1 0)) s (fun t => 0 < (t.bus.notices.filter (·.code = .refusal .notPermitted)).length
      && after (.runPlan r) t fun u => (u.bus.notices.filter (·.code = .refusal .notPermitted)).length = 1) = true := by
  decide

/-- A failing check of a later LISTEN is noticed with TILT listed already, and once (R12, R124, log 24). -/
theorem test_tilt_check_again :
    let s := (inMode .listen (faulted .sensor 0xFF06 jack)).onLevel fun l => { l with checkLeft := 4 }
    after (.inclinometerReading none) s (fun t => t.bus.notices.length = 1
      && after (.inclinometerReading none) t fun u => u.bus.notices.length = 1) = true := by
  decide

/-- A record whose stored CRC reads FFFFh fails the field check (R4, R174). -/
theorem test_unwritten_crc :
    recordValid campRecord .awning 16 = true
      ∧ recordValid { campRecord with cells := campRecord.cells.dropLast.dropLast } .awning 16 = false := by
  decide

/-- A retract that finds its home switch already closed ends IDLE and STOWED, and its plan part is DONE (R63, R70, R143,
log 62). -/
theorem test_end_at_closed_switch :
    let s := (retracting awning).onChA fun c => { c with act := .waiting, applied := 0, homeClosed := true }
    let c : Claim := { amount := 30, baseClass := 3, standing := .settling, settle := 200 }
    after .settleWindowEnd (s.onSupply fun u => { u with claim := some c, cap := 0 })
      (fun t => t.chA.act = .idle && t.chA.cls = .stowed && t.chA.count = 0
        && (t.orders.cursor.map (·.part)) = some .done) = true := by
  decide

/-- An extension that finds its out switch already closed takes the class from STOWED, and the wind retract is raised (R70,
R142). -/
theorem test_wind_at_closed_switch :
    let s := (withOrder .extend .held none awning).onChA fun c =>
      { c with act := .waiting, order := some { origin := .held, dir := .extend, age := 0 }, cls := .stowed, count := 0,
               outClosed := true }
    let c : Claim := { amount := 30, baseClass := 3, standing := .settling, settle := 200 }
    after .settleWindowEnd ((s.onSupply fun u => { u with claim := some c, cap := 0 }).onWind fun x => { x with highRun := 3 })
      (fun t => t.chA.act = .waiting && t.chA.cls = .deployed && (t.orders.cur.map (·.task)) = some .windRetract) = true := by
  decide

/-! ### Witnesses of the statements about steps -/

/-- The state a step answers. -/
def stepped (s : State) : State :=
  match step s with
  | .next t => t
  | _ => s

theorem witness_step_runs_front_command :
    ∃ (c : Instr) (rest : List Instr) (s : State), s.pending = c :: rest :=
  ⟨.stopLineFall, [.beaconDue], jack.setPending [.stopLineFall, .beaconDue], rfl⟩

theorem witness_empty_queue_lets_time_pass : ∃ s : State, s.pending = [] ∧ s.chA.act = .driving :=
  ⟨moving .extend .extend .extend, by decide⟩

/-- The other modes of the same statement: WATCH, and one in which only the controller's timers run. -/
theorem witness_empty_queue_in_other_modes :
    ∃ s t : State, s.pending = [] ∧ s.node.mode = .watch ∧ s.watch.poll = some 5 ∧ t.pending = [] ∧ t.active = false
      ∧ t.node.mode ≠ .watch :=
  ⟨(inMode .watch awning).onWatch fun x => { x with poll := some 5 }, inMode .setup awning, by decide, by decide, by decide,
    by decide, by decide, by decide⟩

theorem witness_store_is_written_once :
    ∃ s t : State, s.storeOk = true ∧ step s = .next t ∧ s.store.prog.isSome = true ∧ t.store.written 252 = true :=
  let s := (programming 252 (inMode .setup jack)).setPending [.calibrationProgrammingDone]
  ⟨s, stepped s, by decide, rfl, by decide, by decide⟩

/-- A step of a driving slide that meets every invariant. -/
theorem witness_driving_invariants :
    ∃ s t : State, s.dutyOk = true ∧ s.boundOk = true ∧ s.placesOk = true ∧ s.leadHeld = true ∧ s.travelOk = true
      ∧ s.alarmOk = true ∧ s.roadOk = true ∧ s.queuesOk = true ∧ s.peersOk = true ∧ s.capOk = true ∧ s.stepOk = true
      ∧ s.ordersOk = true ∧ s.waitsHeld = true ∧ s.anyDriving = true ∧ step s = .next t ∧ t.anyDriving = true :=
  let p := peer (jackBody .stable true) .fresh none
  let s := ((slideDrives .extend).onPeers fun _ => [{ p with station := 0 }, p]).setPending [.encoderPulse .a]
  ⟨s, stepped s, by decide, by decide, by decide, by decide, by decide, by decide, by decide, by decide, by decide, by decide,
    by decide, by decide, by decide, by decide, rfl, by decide⟩

/-- A jack that lifts: its session, its leg and its channel agree, and it waits when a slide begins to drive. -/
theorem witness_orders_channels_and_sessions_agree :
    ∃ s t : State, s.ordersOk = true ∧ s.waitsHeld = true ∧ s.capOk = true ∧ s.stepOk = true ∧ s.level.leg = some .lift
      ∧ s.chA.act = .driving ∧ step s = .next t ∧ t.chA.act = .waiting :=
  let b : Beacon := { ready := true, retiring := false, roadAlarm := false, wake := .none, fault := none,
                      body := .slide .driving .driving .partway 300 300 0 }
  let d := encodeBeacon b
  let s := (hearing (peer (jackBody .lifting true) .fresh none)
      ((levelling .lifting (some .lift) (jackDrives .level .extend)).onLevel fun l => { l with request := 100, p := -40 })).setPending
    [.postureBeacon 8 d]
  ⟨s, stepped s, by decide, by decide, by decide, by decide, by decide, by decide, rfl, by decide⟩

/-- A jack FAULTED with a channel fault, TILT listed beside it, in STABLE without a dwell. -/
theorem witness_recorded_faults_and_tilt :
    ∃ s t : State, s.ordersOk = true ∧ s.faultsOk = true ∧ s.tiltOk = true ∧ s.isJack = true
      ∧ s.hasSensor detailTilt = true ∧ s.level.phase = .stable ∧ s.chA.fault.isSome = true ∧ step s = .next t :=
  let s := ((levelling .stable none (faulted .sensor 0xFF06 jack)).onChA fun c =>
      { c with act := .faulted, fault := some (.stall, 3) }).setPending [.inclinometerReading none]
  ⟨s, stepped s, by decide, by decide, by decide, by decide, by decide, by decide, by decide, rfl⟩

/-- A leading ram at the rack limit, held at duty 0 while its partner drives. -/
theorem witness_leading_ram_is_held :
    ∃ s t : State, s.dutyOk = true ∧ s.leadHeld = true ∧ s.leads .a = true ∧ s.rackSize = s.cal.rLim
      ∧ s.anyDriving = true ∧ step s = .next t :=
  let s := ((slideDrives .extend).onChA fun c => { c with count := 90, applied := 0 }).setPending [.supplySenseReading 12000]
  ⟨s, stepped s, by decide, by decide, by decide, by decide, by decide, rfl⟩

/-- An awning that is not stowed with PARK released, its alarm set. -/
theorem witness_alarm_follows_park_and_class :
    ∃ s t : State, s.alarmOk = true ∧ s.roadOk = true ∧ s.road.park = some false ∧ s.road.alarm = true ∧ step s = .next t :=
  let s := (awning.onRoad fun r => { r with park := some false, alarm := true }).setPending [.dutyStep]
  ⟨s, stepped s, by decide, by decide, by decide, by decide, rfl⟩

theorem witness_driving_begins_only_in_run :
    ∃ (s t : State) (ch : ChanId), step s = .next t ∧ ch ∈ t.chanIds ∧ (s.chan ch).act ≠ .driving
      ∧ (t.chan ch).act = .driving :=
  let s := ((((withOrder .extend .held none awning).onChA fun c =>
      { c with act := .waiting, order := some { origin := .held, dir := .extend, age := 0 } }).onSupply fun u =>
      { u with claim := some { amount := 30, baseClass := 3, standing := .settling, settle := 200 }, cap := 0 })).setPending
    [.settleWindowEnd]
  ⟨s, stepped s, .a, rfl, by decide, by decide, by decide⟩

/-! ### Witnesses of the statements about codes, ranks, attitudes and squaring -/

/-- Beacons at both ends of their ranges, one of each role. -/
theorem witness_beacon_round_trip :
    let wrap (b : BeaconBody) : Beacon :=
      { ready := true, retiring := false, roadAlarm := true, wake := .busRecovery, fault := some .config, body := b }
    let bs := [(5, wrap (.jack .trim true true true true .faulted .deployed (-1500) 1500 1023)),
               (13, wrap (.slide .faulted .idle .unknown 1000 0 (-128))), (17, wrap (.awning .idle .stowed 1000 255 true true))]
    ∀ x ∈ bs, x.2.fits = true ∧ x.2.body.role = stationRole x.1 := by
  decide

/-- Pairs of ram activities for each clause of the derived activity. -/
theorem witness_peer_activity_is_derived :
    [pairActivity .driving .faulted, pairActivity .waiting .paused, pairActivity .faulted .paused,
      pairActivity .faulted .halted, pairActivity .idle .halted, pairActivity .idle .idle]
      = [.driving, .waiting, .paused, .faulted, .halted, .idle] := by
  decide

/-- Claims whose room holds them whole, in part at the quarter, and not at all. -/
theorem witness_claims_are_ranked_and_shared :
    let s (b : Nat) := (awning.setCal { record with bTotal := b }).onSupply fun u =>
      { u with claim := some { amount := 40, baseClass := 3, standing := .decided, settle := 200 } }
    ([40, 39, 10, 9].map fun b => (takeAdmission (s b)).supply.cap) = [100, 97, 25, 0] := by
  decide

/-- Full queues: an event is discarded, a fault displaces the newest event. -/
theorem witness_slots_and_queue_fill_as_due :
    let e : Notice := { code := .event .hot, chan := .node, requester := 0, order := none, detail := 115 }
    let f : Notice := { code := .fault .stall, chan := .a, requester := 41, order := some .extend, detail := 3 }
    (queueNotice e (List.replicate 8 e)).length = 8 ∧ queueNotice f (List.replicate 8 f) = List.replicate 8 f
      ∧ queueNotice f (List.replicate 8 e) = List.replicate 7 e ++ [f] := by
  decide

/-- A jack with an entry in its table and a lift to make. -/
theorem witness_lift_is_the_highest_corners_lead :
    let s := jack.onLevel fun l => { l with p := -152, q := 60 }
    s.cal.jackTable[s.node.station]? = some (some (4000, -1100)) ∧ 20 ≤ s.lift ∧ liftRequest s.lift = 100 := by
  decide

/-- A slide with a ram UNKNOWN, level, inside the band, between band and limit, and at the limit. -/
theorem witness_rack_and_grace_guard_the_slide :
    let s (n : Nat) := (slideDrives .extend).onChA fun c => { c with count := 40 + n }
    let u := (slideDrives .extend).onChA fun c => { c with cls := .unknown, count := 0 }
    u.bothKnown = false ∧ u.squareRequest .a = 50 ∧ ([16, 17, 50].map fun n => (s n).rackSize) = [6, 7, 40]
      ∧ ([16, 17, 50].map fun n => (s n).squareRequest .a) = [100, 97, 0] := by
  decide

/-- The two lists of ReadingsGiveAttitudeAndConsensus, at a mean that lies halfway between two whole numbers. -/
theorem witness_means_and_medians :
    ([0, 1] : List Int) ≠ [] ∧ meanRound [0, 1] = 1 ∧ meanRound [0, -1] = -1 ∧ meanRound [-3, 0, 0, 0] = -1
      ∧ lowerMedian [3, 1, 2, 1] = 1 := by
  decide

/-! ### Witnesses of the hypotheses, case by case -/

theorem witness_held_in_reset_clears_the_node_supply_below_range_1 :
    ∃ (s : State), s.store.prog = none :=
  ⟨moving .extend .extend .extend, by decide⟩

theorem witness_held_in_reset_clears_the_node_nrst_low_2 :
    ∃ (s : State), s.store.prog = none :=
  ⟨slideDrives .extend, by decide⟩

theorem witness_held_in_reset_clears_the_node_power_on_3 :
    ∃ (_inp : Inputs) (s : State), s.store.prog = none ∧ s.node.nrstLow = true :=
  ⟨sample, jack.onNode fun n => { n with nrstLow := true }, by decide⟩

theorem witness_held_in_reset_clears_the_node_nrst_high_4 :
    ∃ (_inp : Inputs) (s : State), s.node.nrstLow = true ∧ s.node.vbatLow = true :=
  ⟨sample, jack.onNode fun n => { n with nrstLow := true, vbatLow := true }, by decide⟩

theorem witness_stopped_programming_leaves_old_or_new_supply_below_range_1 :
    ∃ (a : Nat) (bytes : List Byte) (s : State), s.storeOk = true ∧ s.store.prog = some (a, bytes)
      ∧ bytes.length = 4 :=
  ⟨252, [1, 2, 3, 4], programming 252 (inMode .setup jack), by decide⟩

theorem witness_stopped_programming_leaves_old_or_new_nrst_low_2 :
    ∃ (a : Nat) (bytes : List Byte) (s : State), s.storeOk = true ∧ s.store.prog = some (a, bytes)
      ∧ bytes.length = 4 :=
  ⟨0, [1, 2, 3, 4], programming 0 (inMode .setup jack), by decide⟩

theorem witness_stopped_programming_leaves_old_or_new_power_on_3 :
    ∃ (_inp : Inputs) (a : Nat) (bytes : List Byte) (s : State),
      s.storeOk = true ∧ s.store.prog = some (a, bytes) ∧ bytes.length = 4 :=
  ⟨sample, 4, [1, 2, 3, 4], programming 4 ((inMode .setup jack).onNode fun n => { n with nrstLow := true }),
    by decide⟩

theorem witness_stopped_programming_leaves_old_or_new_power_on_3_start :
    ∃ (_inp : Inputs) (a : Nat) (bytes : List Byte) (s : State),
      s.storeOk = true ∧ s.store.prog = some (a, bytes) ∧ bytes.length = 4 ∧ s.node.nrstLow = false :=
  ⟨sample, 4, [1, 2, 3, 4], programming 4 (inMode .setup jack), by decide⟩

theorem witness_start_decides_the_mode_power_on_1_setup :
    ∃ (_inp : Inputs) (s : State), s.store.prog = none ∧ s.node.nrstLow = false
      ∧ (decodeStraps { sample with idxStrap := 5 }) = (.jack, some 5) ∧ State.reset.store.locked = false :=
  ⟨{ sample with idxStrap := 5 }, State.reset, by decide⟩

theorem witness_start_decides_the_mode_power_on_1_role :
    ∃ (_inp : Inputs) (s : State), s.store.prog = none ∧ s.node.nrstLow = false
      ∧ (decodeStraps { sample with roleStrap := 3 }).1 = .invalid :=
  ⟨{ sample with roleStrap := 3 }, State.reset, by decide⟩

theorem witness_start_decides_the_mode_power_on_1_index :
    ∃ (_inp : Inputs) (s : State), s.store.prog = none ∧ s.node.nrstLow = false
      ∧ (decodeStraps { sample with idxStrap := 6 }) = (.jack, none) :=
  ⟨{ sample with idxStrap := 6 }, State.reset, by decide⟩

theorem witness_start_decides_the_mode_power_on_1_crc :
    ∃ (_inp : Inputs) (s : State), s.store.prog = none ∧ s.node.nrstLow = false ∧ s.store.locked = true
      ∧ s.store.crcOk = false :=
  ⟨sample, State.reset.onStore fun st => { st with locked := true }, by decide, by decide, by decide,
    blank_not_crcOk⟩

theorem witness_start_decides_the_mode_power_on_1_field :
    ∃ (_inp : Inputs) (s : State), s.store.prog = none ∧ s.node.nrstLow = false
      ∧ decodeStraps { sample with roleStrap := 1 } = (.slide, some 8) ∧ s.store.locked = true
      ∧ s.store.crcOk = true ∧ recordValid s.store .slide 8 = false :=
  ⟨{ sample with roleStrap := 1 }, State.reset.onStore fun _ => campRecord, by decide, by decide, by decide,
    by decide, campRecord_crcOk, by decide⟩

theorem witness_start_decides_the_mode_power_on_1_listen :
    ∃ (_inp : Inputs) (s : State), s.store.prog = none ∧ s.node.nrstLow = false
      ∧ decodeStraps { sample with roleStrap := 2 } = (.awning, some 16) ∧ s.store.locked = true
      ∧ s.store.crcOk = true ∧ recordValid s.store .awning 16 = true
      ∧ overheats { sample with roleStrap := 2 } = false :=
  ⟨{ sample with roleStrap := 2 }, State.reset.onStore fun _ => campRecord, by decide, by decide, by decide,
    by decide, campRecord_crcOk, by decide, by decide⟩

theorem witness_start_decides_the_mode_nrst_high_2_setup :
    ∃ (_inp : Inputs) (s : State), s.store.prog = none ∧ s.node.nrstLow = true ∧ s.node.vbatLow = false
      ∧ (decodeStraps { sample with roleStrap := 2, idxStrap := 1 }) = (.awning, some 17) :=
  ⟨{ sample with roleStrap := 2, idxStrap := 1 },
    State.reset.onNode fun n => { n with vbatLow := false, nrstLow := true }, by decide⟩

theorem witness_query_is_answered_identity_query_1 :
    ∃ (source : Nat) (target : Byte) (s : State), s.delivers .identityQuery source = true
      ∧ byteNames target s.node.station = true ∧ s.bus.identity = none :=
  ⟨126, 0, jack, by decide⟩

theorem witness_query_is_answered_identity_query_1_all :
    ∃ (source : Nat) (target : Byte) (s : State), s.delivers .identityQuery source = true
      ∧ byteNames target s.node.station = true ∧ s.bus.identity = none :=
  ⟨32, 255, awning, by decide⟩

theorem witness_query_is_answered_identity_query_2 :
    ∃ (source : Nat) (_target : Byte) (s : State), s.delivers .identityQuery source = true
      ∧ s.bus.identity.isSome = true :=
  ⟨41, 0, jack.onBus fun b => { b with identity := some [1] }, by decide⟩

theorem witness_restart_begins_listen_restart_request_1 :
    ∃ (source : Nat) (target : Byte) (inp : Inputs) (s : State),
      s.delivers .restartRequest source = true ∧ s.active = true ∧ byteNames target s.node.station = true
      ∧ overheats inp = false :=
  ⟨41, 16, sample, moving .extend .extend .extend, by decide⟩

theorem witness_listen_ends_in_run_or_extends_listen_window_end_1 :
    ∃ (s : State), s.node.mode = .listen ∧ s.node.listen.isSome = true ∧ s.cal.vFloor ≤ s.inp.vs :=
  ⟨(inMode .listen jack).onNode fun n => { n with listen := some 600 }, by decide⟩

theorem witness_listen_ends_in_run_or_extends_listen_window_end_1_floor :
    ∃ (s : State), s.node.mode = .listen ∧ s.node.listen.isSome = true ∧ s.cal.vFloor ≤ s.inp.vs
      ∧ s.inp.vs = s.cal.vFloor :=
  ⟨((inMode .listen jack).onNode fun n => { n with listen := some 600 }).onInp fun x => { x with vs := 10500 },
    by decide⟩

theorem witness_listen_ends_in_run_or_extends_listen_window_end_2 :
    ∃ (s : State), s.node.mode = .listen ∧ s.node.listen.isSome = true ∧ s.inp.vs < s.cal.vFloor :=
  ⟨((inMode .listen jack).onNode fun n => { n with listen := some 600 }).onInp fun x => { x with vs := 10499 },
    by decide⟩

theorem witness_listen_ends_in_run_or_extends_supply_sense_reading_3_enough :
    ∃ (_mv : Nat) (s : State), s.node.mode = .listen ∧ s.node.extended = true ∧ s.cal.vFloor = 10500 :=
  ⟨10500, (inMode .listen jack).onNode fun n => { n with extended := true }, by decide⟩

theorem witness_listen_ends_in_run_or_extends_supply_sense_reading_3_low :
    ∃ (_mv : Nat) (s : State), s.node.mode = .listen ∧ s.node.extended = true :=
  ⟨10499, (inMode .listen jack).onNode fun n => { n with extended := true }, by decide⟩

theorem witness_writes_and_locks_take_effect_calibration_write_1 :
    ∃ (source : Nat) (w : CalWrite) (s : State), s.delivers .calibrationWrite source = true ∧ s.node.mode = .setup
      ∧ w.target.toNat = s.node.station ∧ w.offset.toNat ≤ 252 ∧ s.store.firstWritten w.offset.toNat = none :=
  ⟨41, { target := 0, offset := 252, d0 := 1, d1 := 2, d2 := 3, d3 := 4, tag := 9 }, inMode .setup jack, by decide⟩

theorem witness_writes_and_locks_take_effect_calibration_programming_done_2 :
    ∃ (a : Nat) (bytes : List Byte) (s : State), s.storeOk = true ∧ s.store.prog = some (a, bytes)
      ∧ bytes.length = 4 ∧ s.store.held = [] :=
  ⟨252, [1, 2, 3, 4], programming 252 (inMode .setup jack), by decide⟩

theorem witness_writes_and_locks_take_effect_calibration_lock_3 :
    ∃ (source : Nat) (target : Byte) (inp : Inputs) (s : State),
      s.delivers .calibrationLock source = true ∧ target.toNat = s.node.station ∧ s.node.mode = .setup
      ∧ inp.cal = true ∧ s.store.state = .opened ∧ s.store.crcOk = true ∧ (decodeStraps inp).2 = some s.node.station
      ∧ (decodeStraps inp).1 = s.node.role ∧ s.node.role ≠ .invalid :=
  ⟨41, 0, { sample with cal := true }, (inMode .setup jack).onStore fun _ => lockable, by decide, by decide,
    by decide, by decide, by decide, lockable_crcOk, by decide, by decide, by decide⟩

theorem witness_calibration_frames_are_refused_calibration_write_1_strap :
    ∃ (source : Nat) (w : CalWrite) (cal : Bool) (s : State),
      s.delivers .calibrationWrite source = true ∧ w.target.toNat = s.node.station
      ∧ ((s.node.mode = .setup ∧ cal = false) ∨ s.active = true) ∧ s.bus.notices.length < 8 :=
  ⟨41, { target := 0, offset := 0, d0 := 1, d1 := 2, d2 := 3, d3 := 4, tag := 9 }, false, inMode .setup jack,
    by decide⟩

theorem witness_calibration_frames_are_refused_calibration_write_1_run :
    ∃ (source : Nat) (w : CalWrite) (cal : Bool) (s : State),
      s.delivers .calibrationWrite source = true ∧ w.target.toNat = s.node.station
      ∧ ((s.node.mode = .setup ∧ cal = false) ∨ s.active = true) ∧ s.bus.notices.length < 8 :=
  ⟨41, { target := 0, offset := 0, d0 := 1, d1 := 2, d2 := 3, d3 := 4, tag := 9 }, true, jack, by decide⟩

theorem witness_calibration_frames_are_refused_calibration_write_2 :
    ∃ (source : Nat) (w : CalWrite) (s : State), s.delivers .calibrationWrite source = true
      ∧ w.target.toNat = s.node.station ∧ s.node.mode = .setup ∧ 253 ≤ w.offset.toNat ∧ s.bus.notices.length < 8 :=
  ⟨41, { target := 0, offset := 253, d0 := 1, d1 := 2, d2 := 3, d3 := 4, tag := 9 }, inMode .setup jack, by decide⟩

theorem witness_calibration_frames_are_refused_calibration_write_2_top :
    ∃ (source : Nat) (w : CalWrite) (s : State), s.delivers .calibrationWrite source = true
      ∧ w.target.toNat = s.node.station ∧ s.node.mode = .setup ∧ 253 ≤ w.offset.toNat ∧ s.bus.notices.length < 8 :=
  ⟨41, { target := 0, offset := 255, d0 := 1, d1 := 2, d2 := 3, d3 := 4, tag := 9 }, inMode .setup jack, by decide⟩

theorem witness_calibration_frames_are_refused_calibration_write_3 :
    ∃ (source : Nat) (w : CalWrite) (n : Nat) (s : State), s.delivers .calibrationWrite source = true
      ∧ w.target.toNat = s.node.station ∧ s.node.mode = .setup ∧ w.offset.toNat ≤ 252
      ∧ s.store.firstWritten w.offset.toNat = some n ∧ s.bus.notices.length < 8 :=
  ⟨41, { target := 0, offset := 252, d0 := 1, d1 := 2, d2 := 3, d3 := 4, tag := 9 }, 255,
    (inMode .setup jack).onStore fun st => { st with cells := [(255, 7)] }, by decide⟩

theorem witness_calibration_frames_are_refused_calibration_lock_4_blank :
    ∃ (source : Nat) (target : Byte) (inp : Inputs) (s : State),
      s.delivers .calibrationLock source = true ∧ target.toNat = s.node.station ∧ s.node.mode = .setup
      ∧ inp.cal = true ∧ (s.store.state ≠ .opened ∨ s.store.crcOk = false) ∧ s.bus.notices.length < 8
      ∧ s.store.state = .blank :=
  ⟨41, 0, { sample with cal := true }, inMode .setup jack, by decide⟩

theorem witness_calibration_frames_are_refused_calibration_lock_4_crc :
    ∃ (source : Nat) (target : Byte) (inp : Inputs) (s : State),
      s.delivers .calibrationLock source = true ∧ target.toNat = s.node.station ∧ s.node.mode = .setup
      ∧ inp.cal = true ∧ (s.store.state ≠ .opened ∨ s.store.crcOk = false) ∧ s.bus.notices.length < 8
      ∧ s.store.state = .opened :=
  ⟨41, 0, { sample with cal := true }, (inMode .setup jack).onStore fun _ => mislaid, by decide, by decide,
    by decide, by decide, Or.inr mislaid_not_crcOk, by decide, by decide⟩

theorem witness_calibration_frames_are_refused_calibration_lock_5 :
    ∃ (source : Nat) (target : Byte) (inp : Inputs) (s : State),
      s.delivers .calibrationLock source = true ∧ target.toNat = s.node.station
      ∧ ((s.node.mode = .setup ∧ inp.cal = false) ∨ s.active = true) ∧ s.bus.notices.length < 8 :=
  ⟨41, 0, sample, jack, by decide⟩

theorem witness_calibration_frames_are_refused_calibration_lock_5_strap :
    ∃ (source : Nat) (target : Byte) (inp : Inputs) (s : State),
      s.delivers .calibrationLock source = true ∧ target.toNat = s.node.station
      ∧ ((s.node.mode = .setup ∧ inp.cal = false) ∨ s.active = true) ∧ s.bus.notices.length < 8 :=
  ⟨41, 0, sample, inMode .setup jack, by decide⟩

theorem witness_beacon_replaces_the_entry_posture_beacon_1 :
    ∃ (source : Nat) (d : Data8) (b : Beacon) (s : State), s.delivers .postureBeacon source = true ∧ s.active = true
      ∧ source ≠ s.node.station ∧ decodeBeacon source d = some b :=
  ⟨1, ⟨0x20, 0x00, 0xA2, 0x11, 0xFF, 0xB0, 0x07, 0x2C⟩,
    {
      ready := true, retiring := false, roadAlarm := false, wake := .none, fault := none,
      body := jackBody .stable true }, jack, by decide⟩

theorem witness_beacon_replaces_the_entry_posture_beacon_1_old :
    ∃ (source : Nat) (d : Data8) (b : Beacon) (s : State), s.delivers .postureBeacon source = true ∧ s.active = true
      ∧ source ≠ s.node.station ∧ decodeBeacon source d = some b :=
  ⟨1, ⟨0x30, 0x00, 0xA2, 0x11, 0xFF, 0xB0, 0x07, 0x2C⟩,
    {
      ready := true, retiring := true, roadAlarm := false, wake := .none, fault := none,
      body := jackBody .stable true }, hearing (peer (jackBody .none false) .stale none) jack, by decide⟩

theorem witness_beacon_replaces_the_entry_posture_beacon_2_role :
    ∃ (source : Nat) (d : Data8) (s : State), s.delivers .postureBeacon source = true ∧ s.active = true
      ∧ source ≠ s.node.station ∧ decodeBeacon source d = none :=
  ⟨1, ⟨0x60, 0, 0, 0, 0, 0, 0, 0⟩, jack, by decide⟩

theorem witness_beacon_replaces_the_entry_posture_beacon_2_angle :
    ∃ (source : Nat) (d : Data8) (s : State), s.delivers .postureBeacon source = true ∧ s.active = true
      ∧ source ≠ s.node.station ∧ decodeBeacon source d = none :=
  ⟨1, ⟨0x20, 0, 0, 0, 0x5D, 0xD0, 0, 0⟩, jack, by decide⟩

theorem witness_own_station_beacon_sets_duplicate_posture_beacon_1 :
    ∃ (source : Nat) (_d : Data8) (s : State), s.delivers .postureBeacon source = true ∧ s.active = true
      ∧ source = s.node.station ∧ s.hasFault .duplicate = false ∧ s.noPlan = true ∧ s.anyCarries = true :=
  ⟨16, ⟨0, 0, 0, 0, 0, 0, 0, 0⟩, moving .extend .extend .extend, by decide⟩

theorem witness_own_station_beacon_sets_duplicate_posture_beacon_2 :
    ∃ (source : Nat) (_d : Data8) (s : State), s.delivers .postureBeacon source = true ∧ s.active = true
      ∧ source = s.node.station ∧ s.hasFault .duplicate = true :=
  ⟨16, ⟨0, 0, 0, 0, 0, 0, 0, 0⟩, faulted .duplicate 0 awning, by decide⟩

theorem witness_claim_records_and_ages_draw_notice_1 :
    ∃ (source : Nat) (r : DrawReq) (p : Peer) (s : State), s.delivers .drawNotice source = true ∧ s.active = true
      ∧ source ≠ s.node.station ∧ findPeer s.peers source = some p ∧ r.state = 0 ∧ r.baseClass.toNat ≤ 3 :=
  ⟨1, { state := 0, claim := 80, baseClass := 3, yield := 3 }, peer (jackBody .stable true) .fresh none,
    hearing (peer (jackBody .stable true) .fresh none) jack, by decide⟩

theorem witness_claim_records_and_ages_draw_notice_2 :
    ∃ (source : Nat) (r : DrawReq) (p : Peer) (s : State), s.delivers .drawNotice source = true ∧ s.active = true
      ∧ source ≠ s.node.station ∧ findPeer s.peers source = some p ∧ r.state = 1 ∧ r.baseClass.toNat ≤ 3 :=
  ⟨1, { state := 1, claim := 80, baseClass := 0, yield := 0 },
    peer (jackBody .stable true) .fresh (some { amount := 30, baseClass := 1, yield := 0, age := 250 }),
    hearing (peer (jackBody .stable true) .fresh (some { amount := 30, baseClass := 1, yield := 0, age := 250 }))
      jack, by decide⟩

theorem witness_claim_records_and_ages_draw_notice_3_own :
    ∃ (source : Nat) (r : DrawReq) (s : State), s.delivers .drawNotice source = true
      ∧ (source = s.node.station ∨ findPeer s.peers source = none ∨ 1 < r.state.toNat ∨ 3 < r.baseClass.toNat)
      ∧ s.node.station = 0 :=
  ⟨0, { state := 0, claim := 1, baseClass := 1, yield := 0 }, jack, by decide⟩

theorem witness_claim_records_and_ages_draw_notice_3_absent :
    ∃ (source : Nat) (r : DrawReq) (s : State), s.delivers .drawNotice source = true
      ∧ (source = s.node.station ∨ findPeer s.peers source = none ∨ 1 < r.state.toNat ∨ 3 < r.baseClass.toNat)
      ∧ findPeer s.peers 1 = none :=
  ⟨1, { state := 0, claim := 1, baseClass := 1, yield := 0 }, jack, by decide⟩

theorem witness_claim_records_and_ages_draw_notice_3_state :
    ∃ (source : Nat) (r : DrawReq) (s : State), s.delivers .drawNotice source = true
      ∧ (source = s.node.station ∨ findPeer s.peers source = none ∨ 1 < r.state.toNat ∨ 3 < r.baseClass.toNat) :=
  ⟨1, { state := 2, claim := 1, baseClass := 1, yield := 0 },
    hearing (peer (jackBody .stable true) .fresh none) jack, by decide⟩

theorem witness_claim_records_and_ages_draw_notice_3_class :
    ∃ (source : Nat) (r : DrawReq) (s : State), s.delivers .drawNotice source = true
      ∧ (source = s.node.station ∨ findPeer s.peers source = none ∨ 1 < r.state.toNat ∨ 3 < r.baseClass.toNat) :=
  ⟨1, { state := 0, claim := 1, baseClass := 4, yield := 0 },
    hearing (peer (jackBody .stable true) .fresh none) jack, by decide⟩

theorem witness_claim_records_and_ages_beacon_age_stale_4 :
    ∃ (station : Nat) (p : Peer) (s : State), s.active = true ∧ findPeer s.peers station = some p ∧ p.fresh = .fresh
      ∧ 250 < p.age :=
  ⟨1, { peer (jackBody .stable true) .fresh none with age := 251 },
    hearing { peer (jackBody .stable true) .fresh none with age := 251 } jack, by decide⟩

theorem witness_claim_records_and_ages_beacon_age_lost_5 :
    ∃ (station : Nat) (p : Peer) (s : State), s.active = true ∧ findPeer s.peers station = some p ∧ p.fresh = .stale
      ∧ 1000 < p.age :=
  ⟨1, { peer (jackBody .stable true) .stale none with age := 1001 },
    hearing { peer (jackBody .stable true) .stale none with age := 1001 } jack, by decide⟩

theorem witness_claim_records_and_ages_claim_lapse_6 :
    ∃ (station : Nat) (p : Peer) (c : ClaimRec) (s : State), s.active = true ∧ findPeer s.peers station = some p
      ∧ p.claim = some c ∧ 250 < c.age :=
  ⟨1, peer (jackBody .stable true) .fresh (some { amount := 30, baseClass := 1, yield := 0, age := 251 }),
    { amount := 30, baseClass := 1, yield := 0, age := 251 },
    hearing (peer (jackBody .stable true) .fresh (some { amount := 30, baseClass := 1, yield := 0, age := 251 }))
      jack, by decide⟩

theorem witness_claim_records_and_ages_beacon_age_stale_7 :
    ∃ (station : Nat) (p : Peer) (s : State), findPeer s.peers station = some p ∧ p.age = 250 ∧ p.fresh = .fresh :=
  ⟨1, { peer (jackBody .stable true) .fresh none with age := 250 },
    hearing { peer (jackBody .stable true) .fresh none with age := 250 } jack, by decide⟩

theorem witness_claim_records_and_ages_beacon_age_lost_7 :
    ∃ (station : Nat) (p : Peer) (s : State), findPeer s.peers station = some p ∧ p.age = 1000 ∧ p.fresh = .stale :=
  ⟨1, { peer (jackBody .stable true) .stale none with age := 1000 },
    hearing { peer (jackBody .stable true) .stale none with age := 1000 } jack, by decide⟩

theorem witness_claim_records_and_ages_claim_lapse_8 :
    ∃ (station : Nat) (p : Peer) (s : State), findPeer s.peers station = some p ∧ p.claim.isSome = true
      ∧ (∀ c : ClaimRec, p.claim = some c → c.age ≤ 250) :=
  ⟨1, peer (jackBody .stable true) .fresh (some { amount := 30, baseClass := 1, yield := 0, age := 250 }),
    hearing (peer (jackBody .stable true) .fresh (some { amount := 30, baseClass := 1, yield := 0, age := 250 }))
      jack, by decide, by decide, fun _ h => Option.some.inj h ▸ Nat.le_refl 250⟩

theorem witness_halts_stop_the_node_halt_1 :
    ∃ (r : MotionReq) (s : State), s.takes r = true ∧ s.anyCarries = true :=
  ⟨press 255 0 0, moving .extend .extend .extend, by decide⟩

theorem witness_halts_stop_the_node_halt_1_wind :
    ∃ (r : MotionReq) (s : State), s.takes r = true ∧ s.orders.cur.map (·.task) = some .windRetract
      ∧ s.wind.spent = false :=
  ⟨press 255 0 0, (withOrder .windRetract .auto none awning).onChA (drives .retract .auto 60), by decide⟩

theorem witness_halts_stop_the_node_halt_1_stow :
    ∃ (r : MotionReq) (s : State), s.takes r = true ∧ s.orders.cur.map (·.task) = some .roadStow
      ∧ s.road.stow = .running :=
  ⟨press 255 0 0, ((withOrder .roadStow .auto none awning).onChA (drives .retract .auto 60)).onRoad fun r => { r with
      stow := .running }, by decide⟩

theorem witness_halts_stop_the_node_stop_call_2 :
    ∃ (source : Nat) (_reason : Byte) (_role : Byte) (s : State),
      s.delivers .stopCall source = true ∧ s.active = true :=
  ⟨8, 4, 1, moving .retract .retract .retract, by decide⟩

theorem witness_halts_stop_the_node_stop_line_fall_3 :
    ∃ (s : State), s.active = true ∧ s.stop.sensedLow = false :=
  ⟨slideDrives .retract, by decide⟩

theorem witness_halts_stop_the_node_stop_line_fall_6 :
    ∃ (s : State), s.active = true ∧ s.stop.sensedLow = true ∧ s.inp.stopPulled = false :=
  ⟨jack.onStop fun u => { u with sensedLow := true, drive := .latched }, by decide⟩

theorem witness_halts_stop_the_node_stop_line_rise_4 :
    ∃ (s : State), s.active = true ∧ s.noPlan = true ∧ s.stop.sensedLow = true ∧ s.stop.drive = .none
      ∧ s.shortOfTravel = true :=
  ⟨awning.onStop fun u => { u with sensedLow := true }, by decide⟩

theorem witness_halts_stop_the_node_stop_pulse_end_5 :
    ∃ (s : State), s.stop.drive = .pulsing :=
  ⟨jack.onStop fun u => { u with drive := .pulsing, pulse := some 200 }, by decide⟩

theorem witness_accepted_press_starts_its_order_extend_1_held :
    ∃ (r : MotionReq) (s : State), s.takes r = true ∧ s.rests = true ∧ s.orders.quiet = none
      ∧ findPress (r.key .extend) s.orders.presses = none ∧ 0 < s.allowance
      ∧ s.check .extend (if r.runsHeld .extend then .held else .latched) (r.runsHeld .extend &&
              decide (Order.extend = .retract) && r.override) r.source = none :=
  ⟨press 255 0 0, awning, by decide⟩

theorem witness_accepted_press_starts_its_order_extend_1_latched :
    ∃ (r : MotionReq) (s : State), s.takes r = true ∧ s.rests = true ∧ s.orders.quiet = none
      ∧ findPress (r.key .extend) s.orders.presses = none ∧ 0 < s.allowance
      ∧ s.check .extend (if r.runsHeld .extend then .held else .latched) (r.runsHeld .extend &&
              decide (Order.extend = .retract) && r.override) r.source = none :=
  ⟨press 202 1 0, awning, by decide⟩

theorem witness_accepted_press_starts_its_order_extend_1_slide :
    ∃ (r : MotionReq) (s : State), s.takes r = true ∧ s.rests = true ∧ s.orders.quiet = none
      ∧ findPress (r.key .extend) s.orders.presses = none ∧ 0 < s.allowance
      ∧ s.check .extend (if r.runsHeld .extend then .held else .latched) (r.runsHeld .extend &&
              decide (Order.extend = .retract) && r.override) r.source = none :=
  ⟨press 8 0 0,
    (hearing { peer (jackBody .stable true) .fresh none with station := 0 } slide).onPeers fun l => l ++
      [peer (jackBody .stable true) .fresh none], by decide⟩

theorem witness_accepted_press_starts_its_order_extend_1_jack :
    ∃ (r : MotionReq) (s : State), s.takes r = true ∧ s.rests = true ∧ s.orders.quiet = none
      ∧ findPress (r.key .extend) s.orders.presses = none ∧ 0 < s.allowance
      ∧ s.check .extend (if r.runsHeld .extend then .held else .latched) (r.runsHeld .extend &&
              decide (Order.extend = .retract) && r.override) r.source = none :=
  ⟨press 200 0 0, jack, by decide⟩

theorem witness_accepted_press_starts_its_order_retract_2_held :
    ∃ (r : MotionReq) (s : State), s.takes r = true ∧ s.rests = true ∧ s.orders.quiet = none
      ∧ findPress (r.key .retract) s.orders.presses = none ∧ 0 < s.allowance
      ∧ s.check .retract (if r.runsHeld .retract then .held else .latched) (r.runsHeld .retract &&
              decide (Order.retract = .retract) && r.override) r.source = none :=
  ⟨press 16 2 0, awning, by decide⟩

theorem witness_accepted_press_starts_its_order_retract_2_latched :
    ∃ (r : MotionReq) (s : State), s.takes r = true ∧ s.rests = true ∧ s.orders.quiet = none
      ∧ findPress (r.key .retract) s.orders.presses = none ∧ 0 < s.allowance
      ∧ s.check .retract (if r.runsHeld .retract then .held else .latched) (r.runsHeld .retract &&
              decide (Order.retract = .retract) && r.override) r.source = none :=
  ⟨press 16 1 0, awning.onChA fun c => { c with act := .halted }, by decide⟩

theorem witness_accepted_press_starts_its_order_stow_3 :
    ∃ (r : MotionReq) (s : State), s.takes r = true ∧ s.rests = true ∧ s.orders.quiet = none
      ∧ findPress (r.key .stow) s.orders.presses = none ∧ 0 < s.allowance
      ∧ s.check .stow (if r.runsHeld .stow then .held else .latched) (r.runsHeld .stow &&
              decide (Order.stow = .retract) && r.override) r.source = none :=
  ⟨press 255 1 0, awning, by decide⟩

theorem witness_accepted_press_starts_its_order_extend_4_turn :
    ∃ (r : MotionReq) (o : CurOrder) (s : State), s.takes r = true ∧ s.noPlan = true ∧ s.orders.quiet = none
      ∧ s.orders.cur = some o ∧ s.chanIds.all (fun ch => (s.chan ch).dir.all (· = o.task.dir)) = true
      ∧ 0 < s.allowance ∧ s.stepOk = true ∧ findPress (r.key .extend) s.orders.presses = none
      ∧ ((r.runsHeld .extend = true → s.orders.hold.all (fun h => h.panel = r.source) = true)
          ∧ (r.runsHeld .extend = false → o.origin = .held ∨ o.task.dir ≠ .extend))
      ∧ s.check .extend (if r.runsHeld .extend then .held else .latched) (r.runsHeld .extend &&
              decide (Order.extend = .retract) && r.override) r.source = none :=
  ⟨{ press 255 0 0 with token := 8 },
    {
      task := .retract, origin := .held, panel := 41,
      press := (some { panel := 41, order := .retract, token := 7 }), override := false },
    moving .retract .retract .retract, by decide⟩

theorem witness_accepted_press_starts_its_order_extend_4_waiting :
    ∃ (r : MotionReq) (o : CurOrder) (s : State), s.takes r = true ∧ s.noPlan = true ∧ s.orders.quiet = none
      ∧ s.orders.cur = some o ∧ s.chanIds.all (fun ch => (s.chan ch).dir.all (· = o.task.dir)) = true
      ∧ 0 < s.allowance ∧ s.stepOk = true ∧ findPress (r.key .extend) s.orders.presses = none
      ∧ ((r.runsHeld .extend = true → s.orders.hold.all (fun h => h.panel = r.source) = true)
          ∧ (r.runsHeld .extend = false → o.origin = .held ∨ o.task.dir ≠ .extend))
      ∧ s.check .extend (if r.runsHeld .extend then .held else .latched) (r.runsHeld .extend &&
              decide (Order.extend = .retract) && r.override) r.source = none :=
  ⟨press 255 0 0, { task := .retract, origin := .latched, panel := 41, press := none, override := false },
    (withOrder .retract .latched none awning).onChA (fun c =>
        { c with act := .waiting, order := some { origin := .latched, dir := .retract, age := 0 } }) |>.onSupply fun
      u => { u with claim := some { amount := 30, baseClass := 1, standing := .unsent, settle := 0 }, cap := 0 },
    by decide⟩

theorem witness_accepted_press_starts_its_order_extend_4_carry_on :
    ∃ (r : MotionReq) (o : CurOrder) (s : State), s.takes r = true ∧ s.noPlan = true ∧ s.orders.quiet = none
      ∧ s.orders.cur = some o ∧ s.chanIds.all (fun ch => (s.chan ch).dir.all (· = o.task.dir)) = true
      ∧ 0 < s.allowance ∧ s.stepOk = true ∧ findPress (r.key .extend) s.orders.presses = none
      ∧ ((r.runsHeld .extend = true → s.orders.hold.all (fun h => h.panel = r.source) = true)
          ∧ (r.runsHeld .extend = false → o.origin = .held ∨ o.task.dir ≠ .extend))
      ∧ s.check .extend (if r.runsHeld .extend then .held else .latched) (r.runsHeld .extend &&
              decide (Order.extend = .retract) && r.override) r.source = none :=
  ⟨press 255 0 0, { task := .extend, origin := .latched, panel := 41, press := none, override := false },
    ((withOrder .extend .latched none awning).onChA (drives .extend .latched 60)).setStep
      (some { duty := 60, age := 3 }), by decide⟩

theorem witness_accepted_press_starts_its_order_extend_4_dwell :
    ∃ (r : MotionReq) (o : CurOrder) (s : State), s.takes r = true ∧ s.noPlan = true ∧ s.orders.quiet = none
      ∧ s.orders.cur = some o ∧ s.chanIds.all (fun ch => (s.chan ch).dir.all (· = o.task.dir)) = true
      ∧ 0 < s.allowance ∧ s.stepOk = true ∧ findPress (r.key .extend) s.orders.presses = none
      ∧ ((r.runsHeld .extend = true → s.orders.hold.all (fun h => h.panel = r.source) = true)
          ∧ (r.runsHeld .extend = false → o.origin = .held ∨ o.task.dir ≠ .extend))
      ∧ s.check .extend (if r.runsHeld .extend then .held else .latched) (r.runsHeld .extend &&
              decide (Order.extend = .retract) && r.override) r.source = none :=
  ⟨press 255 0 0, { task := .extend, origin := .held, panel := 41, press := none, override := false },
    (withOrder .extend .held none awning).onChA fun c => { c with
      act := .paused, pause := some (.reversal, 499), order := some { origin := .held, dir := .extend, age := 0 } },
    by decide⟩

theorem witness_accepted_press_starts_its_order_extend_4_session :
    ∃ (r : MotionReq) (o : CurOrder) (s : State), s.takes r = true ∧ s.noPlan = true ∧ s.orders.quiet = none
      ∧ s.orders.cur = some o ∧ s.chanIds.all (fun ch => (s.chan ch).dir.all (· = o.task.dir)) = true
      ∧ 0 < s.allowance ∧ s.stepOk = true ∧ findPress (r.key .extend) s.orders.presses = none
      ∧ ((r.runsHeld .extend = true → s.orders.hold.all (fun h => h.panel = r.source) = true)
          ∧ (r.runsHeld .extend = false → o.origin = .held ∨ o.task.dir ≠ .extend))
      ∧ s.check .extend (if r.runsHeld .extend then .held else .latched) (r.runsHeld .extend &&
              decide (Order.extend = .retract) && r.override) r.source = none :=
  ⟨press 200 0 0, { task := .level, origin := .latched, panel := 41, press := none, override := false },
    (levelling .lifting (some .lift) (jackDrives .level .extend)).onChA fun c =>
      { c with act := .paused, pause := some (.retry, 1) }, by decide⟩

theorem witness_accepted_press_starts_its_order_retract_5_turn :
    ∃ (r : MotionReq) (o : CurOrder) (s : State), s.takes r = true ∧ s.noPlan = true ∧ s.orders.quiet = none
      ∧ s.orders.cur = some o ∧ s.chanIds.all (fun ch => (s.chan ch).dir.all (· = o.task.dir)) = true
      ∧ 0 < s.allowance ∧ s.stepOk = true ∧ findPress (r.key .retract) s.orders.presses = none
      ∧ ((r.runsHeld .retract = true → s.orders.hold.all (fun h => h.panel = r.source) = true)
          ∧ (r.runsHeld .retract = false → o.origin = .held ∨ o.task.dir ≠ .retract))
      ∧ s.check .retract (if r.runsHeld .retract then .held else .latched) (r.runsHeld .retract &&
              decide (Order.retract = .retract) && r.override) r.source = none :=
  ⟨press 255 0 0,
    {
      task := .extend, origin := .held, panel := 41, press := (some { panel := 41, order := .extend, token := 7 }),
      override := false }, moving .extend .extend .extend, by decide⟩

theorem witness_accepted_press_starts_its_order_retract_5_latched :
    ∃ (r : MotionReq) (o : CurOrder) (s : State), s.takes r = true ∧ s.noPlan = true ∧ s.orders.quiet = none
      ∧ s.orders.cur = some o ∧ s.chanIds.all (fun ch => (s.chan ch).dir.all (· = o.task.dir)) = true
      ∧ 0 < s.allowance ∧ s.stepOk = true ∧ findPress (r.key .retract) s.orders.presses = none
      ∧ ((r.runsHeld .retract = true → s.orders.hold.all (fun h => h.panel = r.source) = true)
          ∧ (r.runsHeld .retract = false → o.origin = .held ∨ o.task.dir ≠ .retract))
      ∧ s.check .retract (if r.runsHeld .retract then .held else .latched) (r.runsHeld .retract &&
              decide (Order.retract = .retract) && r.override) r.source = none :=
  ⟨press 255 1 0, { task := .extend, origin := .latched, panel := 41, press := none, override := false },
    ((withOrder .extend .latched none awning).onChA (drives .extend .latched 60)).setStep
      (some { duty := 60, age := 3 }), by decide⟩

theorem witness_accepted_press_starts_its_order_retract_5_slide :
    ∃ (r : MotionReq) (o : CurOrder) (s : State), s.takes r = true ∧ s.noPlan = true ∧ s.orders.quiet = none
      ∧ s.orders.cur = some o ∧ s.chanIds.all (fun ch => (s.chan ch).dir.all (· = o.task.dir)) = true
      ∧ 0 < s.allowance ∧ s.stepOk = true ∧ findPress (r.key .retract) s.orders.presses = none
      ∧ ((r.runsHeld .retract = true → s.orders.hold.all (fun h => h.panel = r.source) = true)
          ∧ (r.runsHeld .retract = false → o.origin = .held ∨ o.task.dir ≠ .retract))
      ∧ s.check .retract (if r.runsHeld .retract then .held else .latched) (r.runsHeld .retract &&
              decide (Order.retract = .retract) && r.override) r.source = none :=
  ⟨press 8 2 0, { task := .extend, origin := .held, panel := 41, press := none, override := false },
    slideDrives .extend, by decide⟩

theorem witness_accepted_press_starts_its_order_stow_6 :
    ∃ (r : MotionReq) (o : CurOrder) (s : State), s.takes r = true ∧ s.noPlan = true ∧ s.orders.quiet = none
      ∧ s.orders.cur = some o ∧ s.chanIds.all (fun ch => (s.chan ch).dir.all (· = o.task.dir)) = true
      ∧ 0 < s.allowance ∧ s.stepOk = true ∧ findPress (r.key .stow) s.orders.presses = none
      ∧ ((r.runsHeld .stow = true → s.orders.hold.all (fun h => h.panel = r.source) = true)
          ∧ (r.runsHeld .stow = false → o.origin = .held ∨ o.task.dir ≠ .retract))
      ∧ s.check .stow (if r.runsHeld .stow then .held else .latched) (r.runsHeld .stow &&
              decide (Order.stow = .retract) && r.override) r.source = none :=
  ⟨press 16 1 0,
    {
      task := .extend, origin := .held, panel := 41, press := (some { panel := 41, order := .extend, token := 7 }),
      override := false }, moving .extend .extend .extend, by decide⟩

theorem witness_refused_repeated_and_conflicting_presses_extend_1_stop :
    ∃ (r : MotionReq) (reason : Reason) (s : State), s.delivers .motionRequest r.source = true ∧ s.hears r = true
      ∧ s.rests = true ∧ s.orders.quiet = none ∧ findPress (r.key .extend) s.orders.presses = none
      ∧ s.bus.notices.length < 8
      ∧ s.check .extend (if r.runsHeld .extend then .held else .latched) (r.runsHeld .extend &&
              decide (Order.extend = .retract) && r.override) r.source = some reason :=
  ⟨press 255 0 0, .stopActive, awning.onStop fun u => { u with sensedLow := true }, by decide⟩

theorem witness_refused_repeated_and_conflicting_presses_extend_1_road :
    ∃ (r : MotionReq) (reason : Reason) (s : State), s.delivers .motionRequest r.source = true ∧ s.hears r = true
      ∧ s.rests = true ∧ s.orders.quiet = none ∧ findPress (r.key .extend) s.orders.presses = none
      ∧ s.bus.notices.length < 8
      ∧ s.check .extend (if r.runsHeld .extend then .held else .latched) (r.runsHeld .extend &&
              decide (Order.extend = .retract) && r.override) r.source = some reason :=
  ⟨press 255 0 0, .road, awning.onRoad fun r => { r with park := some false }, by decide⟩

theorem witness_refused_repeated_and_conflicting_presses_extend_1_unknown :
    ∃ (r : MotionReq) (reason : Reason) (s : State), s.delivers .motionRequest r.source = true ∧ s.hears r = true
      ∧ s.rests = true ∧ s.orders.quiet = none ∧ findPress (r.key .extend) s.orders.presses = none
      ∧ s.bus.notices.length < 8
      ∧ s.check .extend (if r.runsHeld .extend then .held else .latched) (r.runsHeld .extend &&
              decide (Order.extend = .retract) && r.override) r.source = some reason :=
  ⟨press 255 0 0, .positionUnknown, awning.onChA fun c => { c with cls := .unknown, count := 0 }, by decide⟩

theorem witness_refused_repeated_and_conflicting_presses_extend_1_wind :
    ∃ (r : MotionReq) (reason : Reason) (s : State), s.delivers .motionRequest r.source = true ∧ s.hears r = true
      ∧ s.rests = true ∧ s.orders.quiet = none ∧ findPress (r.key .extend) s.orders.presses = none
      ∧ s.bus.notices.length < 8
      ∧ s.check .extend (if r.runsHeld .extend then .held else .latched) (r.runsHeld .extend &&
              decide (Order.extend = .retract) && r.override) r.source = some reason :=
  ⟨press 255 0 0, .windHoldoff, awning.onWind fun x => { x with holdOff := some 599999 }, by decide⟩

theorem witness_refused_repeated_and_conflicting_presses_extend_1_missing :
    ∃ (r : MotionReq) (reason : Reason) (s : State), s.delivers .motionRequest r.source = true ∧ s.hears r = true
      ∧ s.rests = true ∧ s.orders.quiet = none ∧ findPress (r.key .extend) s.orders.presses = none
      ∧ s.bus.notices.length < 8
      ∧ s.check .extend (if r.runsHeld .extend then .held else .latched) (r.runsHeld .extend &&
              decide (Order.extend = .retract) && r.override) r.source = some reason :=
  ⟨press 255 0 0, .peerMissing, slide, by decide⟩

theorem witness_refused_repeated_and_conflicting_presses_extend_1_latched :
    ∃ (r : MotionReq) (reason : Reason) (s : State), s.delivers .motionRequest r.source = true ∧ s.hears r = true
      ∧ s.rests = true ∧ s.orders.quiet = none ∧ findPress (r.key .extend) s.orders.presses = none
      ∧ s.bus.notices.length < 8
      ∧ s.check .extend (if r.runsHeld .extend then .held else .latched) (r.runsHeld .extend &&
              decide (Order.extend = .retract) && r.override) r.source = some reason :=
  ⟨press 255 1 0, .notPermitted, jack, by decide⟩

theorem witness_refused_repeated_and_conflicting_presses_retract_2_inhibited :
    ∃ (r : MotionReq) (reason : Reason) (s : State), s.delivers .motionRequest r.source = true ∧ s.hears r = true
      ∧ s.rests = true ∧ s.orders.quiet = none ∧ findPress (r.key .retract) s.orders.presses = none
      ∧ s.bus.notices.length < 8
      ∧ s.check .retract (if r.runsHeld .retract then .held else .latched) (r.runsHeld .retract &&
              decide (Order.retract = .retract) && r.override) r.source = some reason :=
  ⟨press 255 0 0, .inhibited, awning.onRoad fun r => { r with inhibitA := .both }, by decide⟩

theorem witness_refused_repeated_and_conflicting_presses_retract_2_interlock :
    ∃ (r : MotionReq) (reason : Reason) (s : State), s.delivers .motionRequest r.source = true ∧ s.hears r = true
      ∧ s.rests = true ∧ s.orders.quiet = none ∧ findPress (r.key .retract) s.orders.presses = none
      ∧ s.bus.notices.length < 8
      ∧ s.check .retract (if r.runsHeld .retract then .held else .latched) (r.runsHeld .retract &&
              decide (Order.retract = .retract) && r.override) r.source = some reason :=
  ⟨press 255 0 0, .interlock, jack, by decide⟩

theorem witness_refused_repeated_and_conflicting_presses_stow_3_duplicate :
    ∃ (r : MotionReq) (reason : Reason) (s : State), s.delivers .motionRequest r.source = true ∧ s.hears r = true
      ∧ s.rests = true ∧ s.orders.quiet = none ∧ findPress (r.key .stow) s.orders.presses = none
      ∧ s.bus.notices.length < 8
      ∧ s.check .stow (if r.runsHeld .stow then .held else .latched) (r.runsHeld .stow &&
              decide (Order.stow = .retract) && r.override) r.source = some reason :=
  ⟨press 255 1 0, .duplicate, faulted .duplicate 0 awning, by decide⟩

theorem witness_refused_repeated_and_conflicting_presses_level_4_air :
    ∃ (r : MotionReq) (reason : Reason) (s : State), s.delivers .motionRequest r.source = true ∧ s.hears r = true
      ∧ s.isJack = true ∧ s.rests = true ∧ s.orders.quiet = none ∧ findPress (r.key .level) s.orders.presses = none
      ∧ s.bus.notices.length < 8 ∧ s.check .level .latched false r.source = some reason :=
  ⟨press 255 1 0, .peerMissing, jack, by decide⟩

theorem witness_refused_repeated_and_conflicting_presses_level_4_stable :
    ∃ (r : MotionReq) (reason : Reason) (s : State), s.delivers .motionRequest r.source = true ∧ s.hears r = true
      ∧ s.isJack = true ∧ s.rests = true ∧ s.orders.quiet = none ∧ findPress (r.key .level) s.orders.presses = none
      ∧ s.bus.notices.length < 8 ∧ s.check .level .latched false r.source = some reason :=
  ⟨press 0 1 0, .road, (levelling .stable none jack).onRoad fun r => { r with park := some false }, by decide⟩

theorem witness_refused_repeated_and_conflicting_presses_level_5_missing :
    ∃ (r : MotionReq) (s : State), s.delivers .motionRequest r.source = true ∧ s.hears r = true ∧ s.isJack = true
      ∧ (s.missingJacks ≠ [] ∨ s.hasSensor 0xFF06#16 = true) ∧ s.hasFault .duplicate = false
      ∧ s.stop.sensedLow = false ∧ s.road.park = some true ∧ s.inhibited .extend = false ∧ s.nodeClass ≠ .unknown
      ∧ s.rests = true ∧ s.orders.quiet = none ∧ findPress (r.key .level) s.orders.presses = none
      ∧ s.bus.notices.length < 8 ∧ s.missingJacks ≠ [] :=
  ⟨press 255 1 0, levelling .stable none jack, by decide⟩

theorem witness_refused_repeated_and_conflicting_presses_level_5_tilt :
    ∃ (r : MotionReq) (s : State), s.delivers .motionRequest r.source = true ∧ s.hears r = true ∧ s.isJack = true
      ∧ (s.missingJacks ≠ [] ∨ s.hasSensor 0xFF06#16 = true) ∧ s.hasFault .duplicate = false
      ∧ s.stop.sensedLow = false ∧ s.road.park = some true ∧ s.inhibited .extend = false ∧ s.nodeClass ≠ .unknown
      ∧ s.rests = true ∧ s.orders.quiet = none ∧ findPress (r.key .level) s.orders.presses = none
      ∧ s.bus.notices.length < 8 ∧ s.missingJacks = [] :=
  ⟨press 200 0 0, faulted .sensor 0xFF06 (hearing (peer (jackBody .stable true) .fresh none) jack), by decide⟩

theorem witness_refused_repeated_and_conflicting_presses_extend_6 :
    ∃ (r : MotionReq) (p : Press) (s : State), s.delivers .motionRequest r.source = true ∧ s.hears r = true
      ∧ s.noPlan = true ∧ findPress (r.key .extend) s.orders.presses = some p ∧ s.orders.cur = none
      ∧ s.anyCarries = false :=
  ⟨press 255 0 0,
    { key := { panel := 41, order := .extend, token := 7 }, held := true, running := true, age := 250 },
    awning.onOrders fun u => { u with
      presses := [{
            key := { panel := 41, order := .extend, token := 7 }, held := true, running := true, age := 250 }] },
    by decide⟩

theorem witness_refused_repeated_and_conflicting_presses_retract_7 :
    ∃ (r : MotionReq) (p : Press) (s : State), s.delivers .motionRequest r.source = true ∧ s.hears r = true
      ∧ s.noPlan = true ∧ findPress (r.key .retract) s.orders.presses = some p ∧ s.orders.cur = none
      ∧ s.anyCarries = false :=
  ⟨press 255 1 0,
    { key := { panel := 41, order := .retract, token := 7 }, held := false, running := false, age := 250 },
    awning.onOrders fun u => { u with
      presses := [{
            key := { panel := 41, order := .retract, token := 7 }, held := false, running := false, age := 250 }] },
    by decide⟩

theorem witness_refused_repeated_and_conflicting_presses_stow_8 :
    ∃ (r : MotionReq) (p : Press) (s : State), s.delivers .motionRequest r.source = true ∧ s.hears r = true
      ∧ s.noPlan = true ∧ findPress (r.key .stow) s.orders.presses = some p ∧ s.orders.cur = none
      ∧ s.anyCarries = false :=
  ⟨press 255 1 0,
    { key := { panel := 41, order := .stow, token := 7 }, held := false, running := false, age := 250 },
    awning.onOrders fun u => { u with
      presses := [{
            key := { panel := 41, order := .stow, token := 7 }, held := false, running := false, age := 250 }] },
    by decide⟩

theorem witness_refused_repeated_and_conflicting_presses_extend_9 :
    ∃ (r : MotionReq) (p : Press) (h : Hold) (s : State), s.delivers .motionRequest r.source = true
      ∧ s.hears r = true ∧ s.noPlan = true ∧ findPress (r.key .extend) s.orders.presses = some p ∧ p.running = true
      ∧ p.held = true ∧ s.orders.hold = some h ∧ h.panel = r.source ∧ h.order = .extend ∧ h.token = r.token
      ∧ s.node.role = .awning ∧ s.node.mode = .run ∧ s.orders.cur.isSome = true ∧ s.chA.act = .driving
      ∧ 0 < s.supply.cap ∧ s.windRaises = false ∧ s.shortOfTravel = true :=
  ⟨press 255 0 0,
    { key := { panel := 41, order := .extend, token := 7 }, held := true, running := true, age := 100 },
    { panel := 41, order := .extend, token := 7, age := 100 }, moving .extend .extend .extend, by decide⟩

theorem witness_refused_repeated_and_conflicting_presses_retract_10 :
    ∃ (r : MotionReq) (p : Press) (h : Hold) (s : State), s.delivers .motionRequest r.source = true
      ∧ s.hears r = true ∧ s.noPlan = true ∧ findPress (r.key .retract) s.orders.presses = some p ∧ p.running = true
      ∧ p.held = true ∧ s.orders.hold = some h ∧ h.panel = r.source ∧ h.order = .retract ∧ h.token = r.token
      ∧ s.node.role = .awning ∧ s.node.mode = .run ∧ s.orders.cur.isSome = true ∧ s.chA.act = .driving
      ∧ 0 < s.supply.cap ∧ s.windRaises = false ∧ s.shortOfTravel = true :=
  ⟨press 255 0 0,
    { key := { panel := 41, order := .retract, token := 7 }, held := true, running := true, age := 100 },
    { panel := 41, order := .retract, token := 7, age := 100 }, moving .retract .retract .retract, by decide⟩

theorem witness_refused_repeated_and_conflicting_presses_run_plan_11 :
    ∃ (r : MotionReq) (p : Press) (s : State), s.delivers .motionRequest r.source = true ∧ s.hears r = true
      ∧ r.toAll = true ∧ r.argument.toNat ≤ 3 ∧ s.noPlan = true
      ∧ findPress (r.key .runPlan) s.orders.presses = some p ∧ s.orders.cur = none ∧ s.anyCarries = false :=
  ⟨press 255 1 0,
    { key := { panel := 41, order := .runPlan, token := 7 }, held := false, running := false, age := 250 },
    jack.onOrders fun u => { u with
      presses := [{
            key := { panel := 41, order := .runPlan, token := 7 }, held := false, running := false, age := 250 }] },
    by decide⟩

theorem witness_refused_repeated_and_conflicting_presses_level_12 :
    ∃ (r : MotionReq) (p : Press) (s : State), s.delivers .motionRequest r.source = true ∧ s.hears r = true
      ∧ s.isJack = true ∧ s.noPlan = true ∧ findPress (r.key .level) s.orders.presses = some p ∧ s.orders.cur = none
      ∧ s.anyCarries = false :=
  ⟨press 255 1 0,
    { key := { panel := 41, order := .level, token := 7 }, held := false, running := false, age := 250 },
    jack.onOrders fun u => { u with
      presses := [{
            key := { panel := 41, order := .level, token := 7 }, held := false, running := false, age := 250 }] },
    by decide⟩

theorem witness_refused_repeated_and_conflicting_presses_run_plan_13 :
    ∃ (r : MotionReq) (p : Press) (c : Cursor) (st : StepCal) (s : State),
      s.delivers .motionRequest r.source = true ∧ s.hears r = true ∧ r.toAll = true ∧ r.argument.toNat ≤ 3
      ∧ s.orders.cursor = some c ∧ findPress (r.key .runPlan) s.orders.presses = some p ∧ c.part = .notMine
      ∧ s.orders.cur = none ∧ s.anyCarries = false ∧ (s.planSteps c.plan)[c.step]? = some st
      ∧ (s.otherTargets st).any (fun n => (s.present n).isNone) = true :=
  ⟨press 255 1 0,
    { key := { panel := 41, order := .runPlan, token := 7 }, held := false, running := true, age := 250 },
    { plan := 0, step := 0, age := 0, part := .notMine, panel := 41, token := 7, skipped := false }, ⟨3, 0x1000⟩,
    (planning 0 .notMine jack).onOrders fun u => { u with
      presses := [{
            key := { panel := 41, order := .runPlan, token := 7 }, held := false, running := true, age := 250 }] },
    by decide⟩

theorem witness_refused_repeated_and_conflicting_presses_extend_14 :
    ∃ (r : MotionReq) (h : Hold) (s : State), s.delivers .motionRequest r.source = true ∧ s.hears r = true
      ∧ s.noPlan = true ∧ r.held = true ∧ s.orders.quiet = none ∧ s.orders.cur.isSome = true
      ∧ s.orders.hold = some h ∧ h.panel ≠ r.source ∧ h.order ≠ .extend
      ∧ findPress (r.key .extend) s.orders.presses = none :=
  ⟨{ press 255 0 0 with source := 42 }, { panel := 41, order := .retract, token := 7, age := 100 },
    moving .retract .retract .retract, by decide⟩

theorem witness_refused_repeated_and_conflicting_presses_retract_15 :
    ∃ (r : MotionReq) (h : Hold) (s : State), s.delivers .motionRequest r.source = true ∧ s.hears r = true
      ∧ s.noPlan = true ∧ r.held = true ∧ s.orders.quiet = none ∧ s.orders.cur.isSome = true
      ∧ s.orders.hold = some h ∧ h.panel ≠ r.source ∧ h.order ≠ .retract
      ∧ findPress (r.key .retract) s.orders.presses = none :=
  ⟨{ press 255 0 0 with source := 42 }, { panel := 41, order := .extend, token := 7, age := 100 },
    moving .extend .extend .extend, by decide⟩

theorem witness_accepted_level_begins_a_session_level_1 :
    ∃ (r : MotionReq) (s : State), s.takes r = true ∧ s.isJack = true ∧ s.rests = true ∧ s.orders.quiet = none
      ∧ s.level.contact = false ∧ 0 < s.allowance ∧ findPress (r.key .level) s.orders.presses = none
      ∧ s.check .level .latched false r.source = none :=
  ⟨press 255 1 0, hearing (peer (jackBody .stable true) .fresh none) jack, by decide⟩

theorem witness_accepted_level_begins_a_session_level_2 :
    ∃ (r : MotionReq) (s : State), s.takes r = true ∧ s.isJack = true ∧ s.rests = true ∧ s.orders.quiet = none
      ∧ s.level.contact = true ∧ s.notInContact = [] ∧ s.steep = true ∧ 0 < s.allowance
      ∧ findPress (r.key .level) s.orders.presses = none ∧ s.check .level .latched false r.source = none :=
  ⟨press 255 1 0,
    (hearing (peer (jackBody .stable true) .fresh none) jack).onLevel fun l => { l with contact := true, p := 401 },
    by decide⟩

theorem witness_plans_hold_a_cursor_until_they_end_run_plan_1 :
    ∃ (r : MotionReq) (st : StepCal) (s : State), s.takes r = true ∧ r.toAll = true ∧ r.argument.toNat ≤ 3
      ∧ s.rests = true ∧ s.stop.sensedLow = false ∧ findPress (r.key .runPlan) s.orders.presses = none
      ∧ (s.planSteps r.argument.toNat)[0]? = some st ∧ inMask st.mask s.node.station = false
      ∧ (s.otherTargets st).any (fun n => (s.present n).isNone) = true :=
  ⟨press 255 1 0, ⟨3, 0x1000⟩, jack, by decide⟩

theorem witness_plans_hold_a_cursor_until_they_end_run_plan_2 :
    ∃ (r : MotionReq) (s : State), s.takes r = true ∧ r.toAll = true ∧ r.argument.toNat ≤ 3 ∧ s.rests = true
      ∧ s.stop.sensedLow = false ∧ findPress (r.key .runPlan) s.orders.presses = none
      ∧ s.planSteps r.argument.toNat = [] ∧ s.bus.notices.length < 8 :=
  ⟨press 255 1 3, jack, by decide⟩

theorem witness_plans_hold_a_cursor_until_they_end_step_timeout_3 :
    ∃ (c : Cursor) (s : State), s.active = true ∧ s.orders.cursor = some c
      ∧ (s.cal.plans[c.plan]?).any (fun p => p.timeout * 1000 ≤ c.age) = true ∧ s.aborts c.plan = true :=
  ⟨{ plan := 0, step := 0, age := 120000, part := .notMine, panel := 41, token := 7, skipped := false },
    (planning 0 .notMine jack).onOrders fun u => { u with
      cursor := u.cursor.map fun c => { c with age := 120000 } }, by decide⟩

theorem witness_plans_hold_a_cursor_until_they_end_step_timeout_4 :
    ∃ (c : Cursor) (s : State), s.active = true ∧ s.orders.cursor = some c
      ∧ (s.cal.plans[c.plan]?).any (fun p => p.timeout * 1000 ≤ c.age) = true ∧ s.aborts c.plan = false :=
  ⟨{ plan := 1, step := 0, age := 20000, part := .notMine, panel := 41, token := 7, skipped := false },
    (planning 1 .notMine jack).onOrders fun u => { u with cursor := u.cursor.map fun c => { c with age := 20000 } },
    by decide⟩

theorem witness_plans_hold_a_cursor_until_they_end_step_timeout_5_none :
    ∃ (s : State), s.orders.cursor.all (fun c => !(s.cal.plans[c.plan]?).any (fun p => p.timeout * 1000 ≤ c.age)) =
        true :=
  ⟨jack, by decide⟩

theorem witness_plans_hold_a_cursor_until_they_end_step_timeout_5_young :
    ∃ (s : State), s.orders.cursor.all (fun c => !(s.cal.plans[c.plan]?).any (fun p => p.timeout * 1000 ≤ c.age)) =
        true :=
  ⟨(planning 1 .notMine jack).onOrders fun u => { u with cursor := u.cursor.map fun c => { c with age := 19999 } },
    by decide⟩

theorem witness_plans_hold_a_cursor_until_they_end_run_plan_6 :
    ∃ (r : MotionReq) (st : StepCal) (s : State), s.takes r = true ∧ r.toAll = true ∧ r.argument.toNat ≤ 3
      ∧ s.rests = true ∧ s.stop.sensedLow = false ∧ findPress (r.key .runPlan) s.orders.presses = none
      ∧ (s.planSteps r.argument.toNat)[0]? = some st ∧ inMask st.mask s.node.station = true
      ∧ s.ownEnd (actionTask st.action) = true ∧ (s.otherTargets st).any (fun n => (s.present n).isNone) = true :=
  ⟨press 255 1 0, ⟨3, 0x1001⟩, (awning.setCal (planRecord 3)).onChA fun c => { c with cls := .stowed, count := 0 },
    by decide⟩

theorem witness_plans_hold_a_cursor_until_they_end_run_plan_7 :
    ∃ (r : MotionReq) (st : StepCal) (s : State), s.takes r = true ∧ r.toAll = true ∧ r.argument.toNat ≤ 3
      ∧ s.rests = true ∧ s.stop.sensedLow = false ∧ findPress (r.key .runPlan) s.orders.presses = none
      ∧ (s.planSteps r.argument.toNat)[0]? = some st ∧ inMask st.mask s.node.station = true
      ∧ s.ownEnd (actionTask st.action) = false ∧ actionTask st.action ≠ .level
      ∧ s.partBarred (actionTask st.action) = false ∧ 0 < s.allowance
      ∧ s.check (actionTask st.action) .plan false r.source = none :=
  ⟨press 255 1 0, ⟨3, 0x1001⟩, awning.setCal (planRecord 3), by decide⟩

theorem witness_plans_hold_a_cursor_until_they_end_run_plan_7_full :
    ∃ (r : MotionReq) (st : StepCal) (s : State), s.takes r = true ∧ r.toAll = true ∧ r.argument.toNat ≤ 3
      ∧ s.rests = true ∧ s.stop.sensedLow = false ∧ findPress (r.key .runPlan) s.orders.presses = none
      ∧ (s.planSteps r.argument.toNat)[0]? = some st ∧ inMask st.mask s.node.station = true
      ∧ s.ownEnd (actionTask st.action) = false ∧ actionTask st.action ≠ .level
      ∧ s.partBarred (actionTask st.action) = false ∧ 0 < s.allowance
      ∧ s.check (actionTask st.action) .plan false r.source = none :=
  ⟨press 255 1 0, ⟨4, 0x1001⟩,
    (awning.setCal (planRecord 4)).onBus fun b => { b with
      notices := List.replicate 8 {
          code := .event .hot, chan := .node, requester := 0, order := none, detail := 0 } }, by decide⟩

theorem witness_plans_hold_a_cursor_until_they_end_run_plan_8 :
    ∃ (r : MotionReq) (st : StepCal) (s : State), s.takes r = true ∧ r.toAll = true ∧ r.argument.toNat ≤ 3
      ∧ s.rests = true ∧ s.stop.sensedLow = false ∧ findPress (r.key .runPlan) s.orders.presses = none
      ∧ (s.planSteps r.argument.toNat)[0]? = some st ∧ inMask st.mask s.node.station = true
      ∧ s.ownEnd (actionTask st.action) = false ∧ s.partBarred (actionTask st.action) = false
      ∧ (s.check (actionTask st.action) .plan false r.source = some .interlock
          ∨ s.check (actionTask st.action) .plan false r.source = some .peerMissing) :=
  ⟨press 255 1 0, ⟨3, 0x1001⟩, jack.setCal (planRecord 3), by decide⟩

theorem witness_plans_hold_a_cursor_until_they_end_run_plan_9 :
    ∃ (r : MotionReq) (st : StepCal) (why : Reason) (s : State),
      s.takes r = true ∧ r.toAll = true ∧ r.argument.toNat ≤ 3 ∧ s.rests = true ∧ s.stop.sensedLow = false
      ∧ findPress (r.key .runPlan) s.orders.presses = none ∧ (s.planSteps r.argument.toNat)[0]? = some st
      ∧ inMask st.mask s.node.station = true ∧ s.ownEnd (actionTask st.action) = false
      ∧ s.partBarred (actionTask st.action) = false ∧ s.check (actionTask st.action) .plan false r.source = some why
      ∧ fromInterlock why = false ∧ s.aborts r.argument.toNat = true ∧ s.bus.notices.length < 7 :=
  ⟨press 255 1 0, ⟨2, 0x1001⟩, .windHoldoff,
    (awning.setCal (planRecord 2)).onWind fun x => { x with holdOff := some 1 }, by decide⟩

theorem witness_plans_hold_a_cursor_until_they_end_run_plan_9_sixth :
    ∃ (r : MotionReq) (st : StepCal) (why : Reason) (s : State),
      s.takes r = true ∧ r.toAll = true ∧ r.argument.toNat ≤ 3 ∧ s.rests = true ∧ s.stop.sensedLow = false
      ∧ findPress (r.key .runPlan) s.orders.presses = none ∧ (s.planSteps r.argument.toNat)[0]? = some st
      ∧ inMask st.mask s.node.station = true ∧ s.ownEnd (actionTask st.action) = false
      ∧ s.partBarred (actionTask st.action) = false ∧ s.check (actionTask st.action) .plan false r.source = some why
      ∧ fromInterlock why = false ∧ s.aborts r.argument.toNat = true ∧ s.bus.notices.length < 7 :=
  ⟨press 255 1 0, ⟨2, 0x1001⟩, .windHoldoff,
    ((awning.setCal (planRecord 2)).onWind fun x => { x with holdOff := some 1 }).onBus fun b =>
      { b with
        notices := List.replicate 6 {
            code := .event .hot, chan := .node, requester := 0, order := none, detail := 0 } }, by decide⟩

theorem witness_plans_hold_a_cursor_until_they_end_run_plan_10_new :
    ∃ (r : MotionReq) (st : StepCal) (s : State), s.takes r = true ∧ r.toAll = true ∧ r.argument.toNat ≤ 3
      ∧ s.rests = true ∧ s.stop.sensedLow = false ∧ findPress (r.key .runPlan) s.orders.presses = none
      ∧ (s.planSteps r.argument.toNat)[0]? = some st ∧ inMask st.mask s.node.station = true
      ∧ s.ownEnd (actionTask st.action) = false ∧ s.partBarred (actionTask st.action) = true
      ∧ s.aborts r.argument.toNat = true ∧ s.bus.notices.length < 7 :=
  ⟨press 255 1 0, ⟨1, 0x1001⟩, awning.setCal (planRecord 1), by decide⟩

theorem witness_plans_hold_a_cursor_until_they_end_run_plan_10_again :
    ∃ (r : MotionReq) (st : StepCal) (s : State), s.takes r = true ∧ r.toAll = true ∧ r.argument.toNat ≤ 3
      ∧ s.rests = true ∧ s.stop.sensedLow = false ∧ findPress (r.key .runPlan) s.orders.presses = none
      ∧ (s.planSteps r.argument.toNat)[0]? = some st ∧ inMask st.mask s.node.station = true
      ∧ s.ownEnd (actionTask st.action) = false ∧ s.partBarred (actionTask st.action) = true
      ∧ s.aborts r.argument.toNat = true ∧ s.bus.notices.length < 7 :=
  ⟨press 255 1 0, ⟨1, 0x1001⟩, (awning.setCal (planRecord 1)).onOrders fun u => { u with barred := [(0, 0)] },
    by decide⟩

theorem witness_plans_hold_a_cursor_until_they_end_home_switch_close_11 :
    ∃ (c : Cursor) (st : StepCal) (o : CurOrder) (s : State),
      s.node.mode = .run ∧ s.orders.cursor = some c ∧ (s.planSteps c.plan)[c.step]? = some st
      ∧ s.orders.cur = some o ∧ o.origin = .plan ∧ c.part = .running ∧ s.isSlide = false
      ∧ (s.isJack = true ∨ s.chA.outClosed = false) ∧ (o.task = .retract ∨ o.task = .stow) ∧ s.chA.carries = true
      ∧ s.chA.dir = some .retract ∧ (s.otherTargets st).any (fun n => (s.present n).isNone) = true :=
  ⟨{ plan := 0, step := 0, age := 0, part := .running, panel := 41, token := 7, skipped := false }, ⟨3, 0x1001⟩,
    { task := .retract, origin := .plan, panel := 41, press := none, override := false }, retracting awning,
    by decide⟩

theorem witness_plans_hold_a_cursor_until_they_end_home_switch_close_11_jack :
    ∃ (c : Cursor) (st : StepCal) (o : CurOrder) (s : State),
      s.node.mode = .run ∧ s.orders.cursor = some c ∧ (s.planSteps c.plan)[c.step]? = some st
      ∧ s.orders.cur = some o ∧ o.origin = .plan ∧ c.part = .running ∧ s.isSlide = false
      ∧ (s.isJack = true ∨ s.chA.outClosed = false) ∧ (o.task = .retract ∨ o.task = .stow) ∧ s.chA.carries = true
      ∧ s.chA.dir = some .retract ∧ (s.otherTargets st).any (fun n => (s.present n).isNone) = true :=
  ⟨{ plan := 0, step := 0, age := 0, part := .running, panel := 41, token := 7, skipped := false }, ⟨3, 0x1001⟩,
    { task := .retract, origin := .plan, panel := 41, press := none, override := false },
    retracting (jack.onChA fun c => { c with outClosed := true }), by decide⟩

theorem witness_plans_hold_a_cursor_until_they_end_overcurrent_trip_12 :
    ∃ (reading : Current) (c : Cursor) (st : StepCal) (o : CurOrder) (s : State),
      s.node.mode = .run ∧ s.orders.cursor = some c ∧ (s.planSteps c.plan)[c.step]? = some st
      ∧ s.orders.cur = some o ∧ o.origin = .plan ∧ c.part = .running ∧ s.isSlide = false ∧ s.chA.carries = true
      ∧ s.aborts c.plan = true ∧ s.inPlan c.plan = true ∧ s.bus.notices.length < 7
      ∧ reading.atLeast s.cal.chA.trip = true ∧ s.ordersOk = true :=
  ⟨.units 40, { plan := 0, step := 0, age := 0, part := .running, panel := 41, token := 7, skipped := false },
    ⟨3, 0x1001⟩, { task := .retract, origin := .plan, panel := 41, press := none, override := false },
    retracting awning, by decide⟩

theorem witness_plans_hold_a_cursor_until_they_end_posture_beacon_13_last :
    ∃ (source : Nat) (d : Data8) (b : Beacon) (c : Cursor) (s : State),
      s.delivers .postureBeacon source = true ∧ s.node.mode = .run ∧ source ≠ s.node.station
      ∧ decodeBeacon source d = some b ∧ s.orders.cursor = some c ∧ s.orders.cur = none ∧ s.anyCarries = false
      ∧ (s.isJack = false ∨ (inSession s.level.phase = false ∧ s.road.stow ≠ .heldBack))
      ∧ (applyBeacon source b s).stepDone = true ∧ s.bus.notices.length < 8 :=
  ⟨16, encodeBeacon (told (awningBody .stowed)), told (awningBody .stowed),
    { plan := 1, step := 0, age := 0, part := .notMine, panel := 41, token := 7, skipped := false },
    planning 1 .notMine jack, by decide⟩

theorem witness_plans_hold_a_cursor_until_they_end_posture_beacon_13_next :
    ∃ (source : Nat) (d : Data8) (b : Beacon) (c : Cursor) (s : State),
      s.delivers .postureBeacon source = true ∧ s.node.mode = .run ∧ source ≠ s.node.station
      ∧ decodeBeacon source d = some b ∧ s.orders.cursor = some c ∧ s.orders.cur = none ∧ s.anyCarries = false
      ∧ (s.isJack = false ∨ (inSession s.level.phase = false ∧ s.road.stow ≠ .heldBack))
      ∧ (applyBeacon source b s).stepDone = true ∧ s.bus.notices.length < 8 :=
  ⟨16, encodeBeacon (told (awningBody .stowed)), told (awningBody .stowed),
    { plan := 0, step := 0, age := 0, part := .notMine, panel := 41, token := 7, skipped := false },
    planning 0 .notMine jack, by decide⟩

theorem witness_clear_tests_each_condition_clear_1 :
    ∃ (r : MotionReq) (_ia : Current) (_ib : Current) (s : State),
      s.takes r = true ∧ s.rests = true ∧ s.present? (senses (.units 39) (.units 0)) .stall .a = false :=
  ⟨press 255 1 0, .units 39, .units 0, awning.onChA fun c => { c with act := .faulted, fault := some (.stall, 3) },
    by decide⟩

theorem witness_clear_tests_each_condition_clear_2 :
    ∃ (r : MotionReq) (ia : Current) (ib : Current) (x : FaultKind × Half) (s : State),
      s.takes r = true ∧ s.rests = true ∧ s.bus.notices.length < 8 ∧ s.chA.act = .faulted ∧ s.chA.fault = some x
      ∧ s.present? (senses ia ib) x.1 .a = true :=
  ⟨press 255 1 0, .units 40, .units 0, (.overcurrent, 41),
    awning.onChA fun c => { c with act := .faulted, fault := some (.overcurrent, 41) }, by decide⟩

theorem witness_clear_tests_each_condition_clear_3_absent :
    ∃ (r : MotionReq) (_ia : Current) (_ib : Current) (f : ActiveFault) (s : State),
      s.takes r = true ∧ s.rests = true ∧ s.faultsOk = true ∧ s.stop.drive = .latched ∧ s.stop.first = some f
      ∧ s.present? (senses (.units 39) (.units 0)) .overcurrent .a = false :=
  ⟨press 255 1 0, .units 39, .units 0, { kind := .overcurrent, chan := .a, detail := 3 },
    awning.onStop fun u => { u with
      drive := .latched, first := some { kind := .overcurrent, chan := .a, detail := 3 } }, by decide⟩

theorem witness_clear_tests_each_condition_clear_3_present :
    ∃ (r : MotionReq) (_ia : Current) (_ib : Current) (f : ActiveFault) (s : State),
      s.takes r = true ∧ s.rests = true ∧ s.faultsOk = true ∧ s.stop.drive = .latched ∧ s.stop.first = some f :=
  ⟨press 255 1 0, .units 40, .units 0, { kind := .overcurrent, chan := .a, detail := 3 },
    awning.onStop fun u => { u with
      drive := .latched, first := some { kind := .overcurrent, chan := .a, detail := 3 } }, by decide⟩

theorem witness_clear_tests_each_condition_clear_3_lost :
    ∃ (r : MotionReq) (_ia : Current) (_ib : Current) (f : ActiveFault) (s : State),
      s.takes r = true ∧ s.rests = true ∧ s.faultsOk = true ∧ s.stop.drive = .latched ∧ s.stop.first = some f
      ∧ s.hasFault .peerLost = true :=
  ⟨press 255 1 0, .units 0, .units 0, { kind := .peerLost, chan := .node, detail := 3 },
    (faulted .peerLost 3 awning).onStop fun u => { u with
      drive := .latched, first := some { kind := .peerLost, chan := .node, detail := 3 } }, by decide⟩

theorem witness_clear_tests_each_condition_clear_4_sensor :
    ∃ (r : MotionReq) (ia : Current) (ib : Current) (f : ActiveFault) (s : State),
      s.takes r = true ∧ s.rests = true ∧ s.bus.notices.length < 8 ∧ s.stop.drive = .latched ∧ s.stop.first = some f
      ∧ s.stop.faults.any (fun g => channelKind g.kind) = false ∧ (∀ ch ∈ s.chanIds, (s.chan ch).act ≠ .faulted)
      ∧ ((if channelKind f.kind = true then s.present? (senses ia ib) f.kind f.chan = true
            else s.hasFault f.kind = true ∧ f.kind ≠ .peerLost ∧ f.kind ≠ .tooSteep)) :=
  ⟨press 255 1 0, .units 0, .units 0, { kind := .sensor, chan := .node, detail := 3 },
    (faulted .sensor 0xFF05 awning).onStop fun u => { u with
      drive := .latched, first := some { kind := .sensor, chan := .node, detail := 3 } }, by decide⟩

theorem witness_clear_tests_each_condition_clear_4_supply :
    ∃ (r : MotionReq) (ia : Current) (ib : Current) (f : ActiveFault) (s : State),
      s.takes r = true ∧ s.rests = true ∧ s.bus.notices.length < 8 ∧ s.stop.drive = .latched ∧ s.stop.first = some f
      ∧ s.stop.faults.any (fun g => channelKind g.kind) = false ∧ (∀ ch ∈ s.chanIds, (s.chan ch).act ≠ .faulted)
      ∧ ((if channelKind f.kind = true then s.present? (senses ia ib) f.kind f.chan = true
            else s.hasFault f.kind = true ∧ f.kind ≠ .peerLost ∧ f.kind ≠ .tooSteep)) :=
  ⟨press 255 1 0, .units 0, .units 0, { kind := .supplyLow, chan := .node, detail := 3 },
    (awning.onStop fun u => { u with
        drive := .latched, first := some { kind := .supplyLow, chan := .node, detail := 3 } }).onInp fun x =>
      { x with vs := 10499 }, by decide⟩

theorem witness_clear_tests_each_condition_clear_5 :
    ∃ (r : MotionReq) (_ia : Current) (_ib : Current) (s : State),
      s.takes r = true ∧ s.rests = true ∧ s.stop.drive = .pulsing :=
  ⟨press 255 1 0, .units 0, .units 0, awning.onStop fun u => { u with drive := .pulsing, pulse := some 200 },
    by decide⟩

theorem witness_watch_is_entered_at_rest_sleep_1 :
    ∃ (r : MotionReq) (s : State), s.takes r = true ∧ s.sleepFails = none :=
  ⟨press 255 1 0, awning, by decide⟩

theorem witness_watch_is_entered_at_rest_sleep_2 :
    ∃ (r : MotionReq) (n : Nat) (s : State), s.takes r = true ∧ s.sleepFails = some n ∧ s.rests = true
      ∧ s.bus.notices.length < 8 :=
  ⟨press 255 1 0, 1, awning.onChA fun c => { c with act := .halted }, by decide⟩

theorem witness_watch_is_entered_at_rest_sleep_2_line :
    ∃ (r : MotionReq) (n : Nat) (s : State), s.takes r = true ∧ s.sleepFails = some n ∧ s.rests = true
      ∧ s.bus.notices.length < 8 :=
  ⟨press 255 1 0, 5, awning.onStop fun u => { u with sensedLow := true }, by decide⟩

theorem witness_watch_is_entered_at_rest_sleep_2_drive :
    ∃ (r : MotionReq) (n : Nat) (s : State), s.takes r = true ∧ s.sleepFails = some n ∧ s.rests = true
      ∧ s.bus.notices.length < 8 :=
  ⟨press 255 1 0, 5, awning.onStop fun u => { u with drive := .pulsing }, by decide⟩

theorem witness_watch_is_entered_at_rest_idle_time_reached_3 :
    ∃ (s : State), s.node.mode = .run ∧ s.bus.err ≠ .off ∧ s.sleepFails = none :=
  ⟨jack, by decide⟩

theorem witness_watch_is_entered_at_rest_idle_time_reached_4 :
    ∃ (s : State), s.node.mode = .run ∧ s.orders.cursor.isNone = true
      ∧ (s.supply.claim.isSome = true ∨ s.stop.drive ≠ .none
          ∨ ∃ ch ∈ s.chanIds, (s.chan ch).act = .halted ∨ (s.chan ch).act = .faulted)
      ∧ s.anyCarries = false :=
  ⟨jack.onSupply fun u => { u with
      claim := some { amount := 30, baseClass := 1, standing := .unsent, settle := 0 } }, by decide⟩

theorem witness_watch_is_entered_at_rest_idle_time_reached_4_halted :
    ∃ (s : State), s.node.mode = .run ∧ s.orders.cursor.isNone = true
      ∧ (s.supply.claim.isSome = true ∨ s.stop.drive ≠ .none
          ∨ ∃ ch ∈ s.chanIds, (s.chan ch).act = .halted ∨ (s.chan ch).act = .faulted)
      ∧ s.anyCarries = false :=
  ⟨slide.onChB fun c => { c with act := .halted }, by decide⟩

theorem witness_watch_is_entered_at_rest_idle_time_reached_4_drive :
    ∃ (s : State), s.node.mode = .run ∧ s.orders.cursor.isNone = true
      ∧ (s.supply.claim.isSome = true ∨ s.stop.drive ≠ .none
          ∨ ∃ ch ∈ s.chanIds, (s.chan ch).act = .halted ∨ (s.chan ch).act = .faulted)
      ∧ s.anyCarries = false :=
  ⟨jack.onStop fun u => { u with drive := .latched }, by decide⟩

theorem witness_watch_is_entered_at_rest_idle_time_reached_5 :
    ∃ (s : State), s.node.mode = .run ∧ s.noPlan = true ∧ s.isSlide = false ∧ s.orders.hold.isSome = true
      ∧ s.chA.act = .driving ∧ s.shortOfTravel = true :=
  ⟨moving .extend .extend .extend, by decide⟩

theorem witness_order_timers_and_pauses_end_press_entry_lapse_1 :
    ∃ (_key : PressKey) (s : State), s.active = true :=
  ⟨{ panel := 41, order := .extend, token := 7 }, moving .extend .extend .extend, by decide⟩

theorem witness_order_timers_and_pauses_end_hold_expiry_2 :
    ∃ (s : State), s.active = true ∧ s.orders.hold.isSome = true
      ∧ (∀ h : Hold, s.orders.hold = some h → h.age ≤ 250) :=
  ⟨moving .extend .extend .extend, by decide, by decide, fun _ h => Option.some.inj h ▸ (by decide : 100 ≤ 250)⟩

theorem witness_order_timers_and_pauses_end_hold_expiry_3 :
    ∃ (h : Hold) (s : State), s.active = true ∧ s.noPlan = true ∧ s.orders.hold = some h ∧ 250 < h.age :=
  ⟨{ panel := 41, order := .extend, token := 7, age := 251 }, unrenewed (moving .extend .extend .extend), by decide⟩

theorem witness_order_timers_and_pauses_end_conflict_quiet_end_4 :
    ∃ (s : State), s.active = true ∧ s.noPlan = true ∧ s.orders.quiet.isSome = true :=
  ⟨awning.onOrders fun u => { u with quiet := some 500 }, by decide⟩

theorem witness_order_timers_and_pauses_end_retry_pause_end_5 :
    ∃ (ch : ChanId) (s : State), s.active = true ∧ s.noPlan = true ∧ s.hasChan ch = true ∧ (s.chan ch).act = .paused
      ∧ (s.chan ch).pause.map (·.1) = some .retry ∧ s.shortOfTravel = true ∧ s.supply.passes = 0 :=
  ⟨.a,
    (withOrder .extend .held none awning).onChA fun c => { c with
      act := .paused, pause := some (.retry, 500), order := some { origin := .held, dir := .extend, age := 9 } },
    by decide⟩

theorem witness_order_timers_and_pauses_end_reversal_dwell_end_6 :
    ∃ (ch : ChanId) (s : State), s.active = true ∧ s.noPlan = true ∧ s.hasChan ch = true ∧ (s.chan ch).act = .paused
      ∧ (s.chan ch).pause.map (·.1) = some .reversal ∧ s.shortOfTravel = true ∧ s.supply.passes = 0
      ∧ s.homeReads .a = false :=
  ⟨.a,
    (withOrder .retract .held none awning).onChA fun c => { c with
      act := .paused, pause := some (.reversal, 300),
      order := some { origin := .held, dir := .retract, age := 9 } }, by decide⟩

theorem witness_frames_are_sent_by_kind_transmit_start_1_beacon :
    ∃ (k : Kind) (s : State), s.maySend = true ∧ s.bus.nextKind = some k :=
  ⟨.postureBeacon, jack.onBus fun b => { b with beaconSlot := .pending }, by decide⟩

theorem witness_frames_are_sent_by_kind_transmit_start_1_stop :
    ∃ (k : Kind) (s : State), s.maySend = true ∧ s.bus.nextKind = some k :=
  ⟨.stopCall,
    jack.onBus fun b => { b with beaconSlot := .pending, drawSlot := .claim, stopCall := some (.rack, .slide) },
    by decide⟩

theorem witness_frames_are_sent_by_kind_transmit_start_1_draw :
    ∃ (k : Kind) (s : State), s.maySend = true ∧ s.bus.nextKind = some k :=
  ⟨.drawNotice,
    (moving .extend .extend .extend).onBus fun b => { b with beaconSlot := .pending, drawSlot := .claim },
    by decide⟩

theorem witness_frames_are_sent_by_kind_transmit_start_1_release :
    ∃ (k : Kind) (s : State), s.maySend = true ∧ s.bus.nextKind = some k :=
  ⟨.drawNotice, awning.onBus fun b => { b with drawSlot := .release 30 1 2 }, by decide⟩

theorem witness_frames_are_sent_by_kind_transmit_start_1_notice :
    ∃ (k : Kind) (s : State), s.maySend = true ∧ s.bus.nextKind = some k :=
  ⟨.notice,
    jack.onBus fun b => { b with
      notices := [{ code := .event .hot, chan := .node, requester := 0, order := none, detail := 115 }],
      identity := some [1] }, by decide⟩

theorem witness_frames_are_sent_by_kind_transmit_start_1_wake :
    ∃ (k : Kind) (s : State), s.maySend = true ∧ s.bus.nextKind = some k :=
  ⟨.wakeCall, jack.onBus fun b => { b with wakeCall := some .tilt, identity := some [1] }, by decide⟩

theorem witness_frames_are_sent_by_kind_transmit_complete_2 :
    ∃ (x : Tx) (s : State), s.bus.tx = some x ∧ x.live = true ∧ x.kind = 5 ∧ s.node.mode ≠ .watch :=
  ⟨{ kind := 5, ident := 640, data := [], live := true }, sending 5 [] jack, by decide⟩

theorem witness_frames_are_sent_by_kind_transmit_complete_3 :
    ∃ (x : Tx) (c : Claim) (s : State), s.bus.tx = some x ∧ x.live = true ∧ x.kind = 1 ∧ x.data.head? = some 0
      ∧ s.supply.claim = some c ∧ s.node.mode ≠ .watch :=
  ⟨{ kind := 1, ident := 144, data := [0, 30, 1, 0], live := true },
    { amount := 30, baseClass := 1, standing := .unsent, settle := 0 },
    (sending 1 [0, 30, 1, 0] awning).onSupply fun u => { u with
      claim := some { amount := 30, baseClass := 1, standing := .unsent, settle := 0 } }, by decide⟩

theorem witness_frames_are_sent_by_kind_transmit_complete_4 :
    ∃ (x : Tx) (s : State), s.bus.tx = some x ∧ x.live = true ∧ x.kind = 1 ∧ x.data.head? ≠ some 0
      ∧ s.node.mode ≠ .watch :=
  ⟨{ kind := 1, ident := 144, data := [1, 30, 1, 2], live := true },
    sending 1 [1, 30, 1, 2] (awning.onBus fun b => { b with drawSlot := .release 30 1 2 }), by decide⟩

theorem witness_frames_are_sent_by_kind_transmit_complete_5 :
    ∃ (x : Tx) (s : State), s.bus.tx = some x ∧ x.live = true ∧ x.kind = 4 ∧ s.node.mode ≠ .watch :=
  ⟨{ kind := 4, ident := 512, data := [0, 0x10], live := true },
    sending 4 [0, 0x10] ((jack.onBus fun b => { b with wakeCause := .powerOn }).onNode fun n =>
      { n with startCause := .powerOn }), by decide⟩

theorem witness_frames_are_sent_by_kind_transmit_complete_6 :
    ∃ (x : Tx) (s : State), s.bus.tx = some x ∧ x.live = true ∧ x.kind = 0 ∧ s.node.mode ≠ .watch :=
  ⟨{ kind := 0, ident := 0, data := [1, 0], live := true },
    sending 0 [1, 0] (jack.onBus fun b => { b with stopCall := some (.stall, .jack) }), by decide⟩

theorem witness_frames_are_sent_by_kind_transmit_complete_7 :
    ∃ (x : Tx) (s : State), s.bus.tx = some x ∧ x.live = true ∧ x.kind = 6 ∧ s.node.mode ≠ .watch :=
  ⟨{ kind := 6, ident := 768, data := [3], live := true },
    sending 6 [3] (jack.onBus fun b => { b with wakeCall := some .tilt }), by decide⟩

theorem witness_frames_are_sent_by_kind_transmit_complete_8 :
    ∃ (x : Tx) (s : State), s.bus.tx = some x ∧ x.live = true ∧ x.kind = 9 ∧ s.node.mode ≠ .watch :=
  ⟨{ kind := 9, ident := 1152, data := [1], live := true },
    sending 9 [1] (jack.onBus fun b => { b with identity := some [1] }), by decide⟩

theorem witness_frames_are_sent_by_kind_transmit_complete_9 :
    ∃ (x : Tx) (s : State), s.bus.tx = some x ∧ x.live = true ∧ x.kind = 4 ∧ s.node.mode = .watch
      ∧ s.bus.standby = false ∧ s.bus.stopCall = none ∧ s.bus.drawSlot = .empty ∧ s.bus.notices = []
      ∧ s.bus.wakeCall = none ∧ s.bus.identity = none :=
  ⟨{ kind := 4, ident := 512, data := [0, 0], live := true },
    sending 4 [0, 0] (inMode .watch (jack.onBus fun b => { b with beaconSlot := .retiring [0, 0] })), by decide⟩

theorem witness_frames_are_sent_by_kind_transmit_complete_10 :
    ∃ (x : Tx) (s : State), s.bus.tx = some x ∧ x.live = true ∧ x.kind = 5 ∧ s.node.mode = .watch
      ∧ s.bus.standby = false ∧ s.bus.stopCall = none ∧ s.bus.drawSlot = .empty
      ∧ (s.bus.notices.tail = [] ∧ s.bus.beaconSlot = .empty) ∧ s.bus.wakeCall = none ∧ s.bus.identity = none :=
  ⟨{ kind := 5, ident := 640, data := [], live := true },
    sending 5 [] (inMode .watch (jack.onBus fun b => { b with
          notices := [{ code := .event .hot, chan := .node, requester := 0, order := none, detail := 115 }] })),
    by decide⟩

theorem witness_frames_are_sent_by_kind_transmit_complete_11 :
    ∃ (x : Tx) (s : State), s.bus.tx = some x ∧ x.live = true ∧ x.kind = 4 ∧ s.node.mode = .watch
      ∧ (s.bus.stopCall.isSome = true ∨ s.bus.drawSlot ≠ .empty ∨ s.bus.notices ≠ [] ∨ s.bus.wakeCall.isSome = true
          ∨ s.bus.identity.isSome = true) :=
  ⟨{ kind := 4, ident := 512, data := [0, 0], live := true },
    sending 4 [0, 0] (inMode .watch (jack.onBus fun b => { b with
          beaconSlot := .retiring [0, 0], drawSlot := .release 30 1 0 })), by decide⟩

theorem witness_error_counts_and_states_transmit_error_1 :
    ∃ (e : TxError) (s : State), s.bus.tx.isSome = true ∧ s.bus.err ≠ .off
      ∧ (s.bus.txErrors ≤ 247 ∨ (e = .noAck ∧ s.bus.err = .passive ∧ s.bus.txErrors ≤ 255)) :=
  ⟨.signalled, sending 4 [] (jack.onBus fun b => { b with txErrors := 247 }), by decide⟩

theorem witness_error_counts_and_states_transmit_error_1_silent :
    ∃ (e : TxError) (s : State), s.bus.tx.isSome = true ∧ s.bus.err ≠ .off
      ∧ (s.bus.txErrors ≤ 247 ∨ (e = .noAck ∧ s.bus.err = .passive ∧ s.bus.txErrors ≤ 255)) :=
  ⟨.noAck, sending 4 [] (jack.onBus fun b => { b with err := .passive, txErrors := 128 }), by decide⟩

theorem witness_error_counts_and_states_transmit_error_1_passive_top :
    ∃ (e : TxError) (s : State), s.bus.tx.isSome = true ∧ s.bus.err ≠ .off
      ∧ (s.bus.txErrors ≤ 247 ∨ (e = .noAck ∧ s.bus.err = .passive ∧ s.bus.txErrors ≤ 255)) :=
  ⟨.noAck, sending 4 [] (jack.onBus fun b => { b with err := .passive, txErrors := 255 }), by decide⟩

theorem witness_error_counts_and_states_receive_error_2 :
    ∃ (s : State), s.node.mode ≠ .start ∧ s.bus.err ≠ .off ∧ s.bus.standby = false :=
  ⟨jack.onBus fun b => { b with rxErrors := 127 }, by decide⟩

theorem witness_error_counts_and_states_frame_not_taken_3 :
    ∃ (f : RawFrame) (s : State), ownRow f = false ∧ s.node.mode ≠ .start
      ∧ (s.node.mode ≠ .watch ∨ s.bus.standby = false) ∧ s.bus.err ≠ .off :=
  ⟨{ ident := 0x601, remote := false, dlc := 0, data := [] },
    jack.onBus fun b => { b with err := .passive, rxErrors := 128 }, by decide⟩

theorem witness_error_counts_and_states_frame_not_taken_3_order :
    ∃ (f : RawFrame) (s : State), ownRow f = false ∧ s.node.mode ≠ .start
      ∧ (s.node.mode ≠ .watch ∨ s.bus.standby = false) ∧ s.bus.err ≠ .off
      ∧ acceptRaw { ident := 0x129, remote := false, dlc := 5, data := [255, 9, 1, 7, 0] } = some .motionRequest :=
  ⟨{ ident := 0x129, remote := false, dlc := 5, data := [255, 9, 1, 7, 0] },
    jack.onBus fun b => { b with rxErrors := 1 }, by decide⟩

theorem witness_bus_off_and_rejoin_transmit_error_1 :
    ∃ (s : State), s.active = true ∧ s.bus.tx.isSome = true ∧ (s.bus.err = .active ∨ s.bus.err = .passive)
      ∧ 247 < s.bus.txErrors :=
  ⟨sending 4 [] ((moving .extend .extend .extend).onBus fun b => { b with err := .passive, txErrors := 248 }),
    by decide⟩

theorem witness_bus_off_and_rejoin_off_period_end_2 :
    ∃ (s : State), s.bus.err = .off ∧ s.bus.offTimer.isSome = true :=
  ⟨offBus jack, by decide⟩

theorem witness_bus_off_and_rejoin_bus_rejoin_3 :
    ∃ (inp : Inputs) (s : State), s.active = true ∧ s.bus.err = .off ∧ s.bus.awaitIdle = true
      ∧ overheats inp = false :=
  ⟨sample, (offBus jack).onBus fun b => { b with awaitIdle := true }, by decide⟩

theorem witness_bus_off_and_rejoin_bus_rejoin_4 :
    ∃ (_inp : Inputs) (s : State), s.active = false ∧ s.bus.err = .off ∧ s.bus.awaitIdle = true :=
  ⟨sample, inMode .setup ((offBus jack).onBus fun b => { b with awaitIdle := true }), by decide⟩

theorem witness_slots_and_queue_fill_as_due_beacon_due_1 :
    ∃ (s : State), s.bus.beaconTimer.isSome = true :=
  ⟨jack, by decide⟩

theorem witness_slots_and_queue_fill_as_due_draw_notice_due_2 :
    ∃ (s : State), s.bus.drawTimer.isSome = true ∧ s.supply.claim.isSome = true :=
  ⟨(moving .extend .extend .extend).onBus fun b => { b with drawTimer := some 100 }, by decide⟩

theorem witness_slots_and_queue_fill_as_due_standby_timeout_3 :
    ∃ (s : State), s.node.mode = .watch ∧ s.bus.standbyTimer.isSome = true :=
  ⟨inMode .watch (jack.onBus fun b => { b with standbyTimer := some 200 }), by decide⟩

theorem witness_pulses_switches_and_stalls_move_the_channel_encoder_pulse_1 :
    ∃ (ch : ChanId) (d : Dir) (s : State), s.active = true ∧ s.hasChan ch = true ∧ (s.chan ch).known = true
      ∧ (s.chan ch).countDir = some d :=
  ⟨.a, .extend, moving .extend .extend .extend, by decide⟩

theorem witness_pulses_switches_and_stalls_move_the_channel_encoder_pulse_1_top :
    ∃ (ch : ChanId) (d : Dir) (s : State), s.active = true ∧ s.hasChan ch = true ∧ (s.chan ch).known = true
      ∧ (s.chan ch).countDir = some d :=
  ⟨.b, .extend, (slideDrives .extend).onChB fun c => { c with count := 100, cls := .deployed }, by decide⟩

theorem witness_pulses_switches_and_stalls_move_the_channel_encoder_pulse_1_bottom :
    ∃ (ch : ChanId) (d : Dir) (s : State), s.active = true ∧ s.hasChan ch = true ∧ (s.chan ch).known = true
      ∧ (s.chan ch).countDir = some d :=
  ⟨.a, .retract, jack.onChA fun c => { c with cls := .stowed, count := 0, coast := some (.retract, 199) },
    by decide⟩

theorem witness_pulses_switches_and_stalls_move_the_channel_encoder_pulse_2_rest :
    ∃ (ch : ChanId) (s : State), s.active = true ∧ s.hasChan ch = true
      ∧ ((s.chan ch).known = false ∨ (s.chan ch).countDir = none) :=
  ⟨.a, awning, by decide⟩

theorem witness_pulses_switches_and_stalls_move_the_channel_encoder_pulse_2_unknown :
    ∃ (ch : ChanId) (s : State), s.active = true ∧ s.hasChan ch = true
      ∧ ((s.chan ch).known = false ∨ (s.chan ch).countDir = none) :=
  ⟨.a, (moving .retract .retract .retract).onChA fun c => { c with cls := .unknown, count := 0 }, by decide⟩

theorem witness_pulses_switches_and_stalls_move_the_channel_home_switch_close_3 :
    ∃ (ch : ChanId) (s : State), s.active = true ∧ s.hasChan ch = true ∧ s.noPlan = true
      ∧ (s.isJack = true ∨ (s.chan ch).outClosed = false) ∧ (s.chan .a).carries = true
      ∧ (s.chan .a).dir = some .retract :=
  ⟨.a, moving .retract .retract .retract, by decide⟩

theorem witness_pulses_switches_and_stalls_move_the_channel_home_switch_close_3_slide :
    ∃ (ch : ChanId) (s : State), s.active = true ∧ s.hasChan ch = true ∧ s.noPlan = true
      ∧ (s.isJack = true ∨ (s.chan ch).outClosed = false) :=
  ⟨.b, slideDrives .retract, by decide⟩

theorem witness_pulses_switches_and_stalls_move_the_channel_out_switch_close_4 :
    ∃ (ch : ChanId) (s : State), s.active = true ∧ s.hasChan ch = true ∧ s.noPlan = true ∧ s.isJack = false
      ∧ (s.chan ch).homeClosed = false ∧ (s.chan .a).dir = some .extend ∧ s.wind.highRun < 3 :=
  ⟨.a, moving .extend .extend .extend, by decide⟩

theorem witness_pulses_switches_and_stalls_move_the_channel_switch_open_5 :
    ∃ (sw : EndSwitch) (ch : ChanId) (s : State), s.active = true ∧ s.hasChan ch = true
      ∧ (s.isJack = false ∨ sw = .home) ∧ s.pairClosed ch = false :=
  ⟨.home, .a, awning.onChA fun c => { c with homeClosed := true }, by decide⟩

theorem witness_pulses_switches_and_stalls_move_the_channel_switch_open_5_out :
    ∃ (sw : EndSwitch) (ch : ChanId) (s : State), s.active = true ∧ s.hasChan ch = true
      ∧ (s.isJack = false ∨ sw = .home) ∧ s.pairClosed ch = false :=
  ⟨.out, .b, slide.onChB fun c => { c with outClosed := true }, by decide⟩

theorem witness_pulses_switches_and_stalls_move_the_channel_home_switch_close_6 :
    ∃ (ch : ChanId) (s : State), s.node.mode = .run ∧ s.hasChan ch = true ∧ s.noPlan = true ∧ s.isJack = false
      ∧ (s.chan ch).outClosed = true :=
  ⟨.a, awning.onChA fun c => { c with outClosed := true }, by decide⟩

theorem witness_pulses_switches_and_stalls_move_the_channel_out_switch_close_7 :
    ∃ (ch : ChanId) (s : State), s.node.mode = .run ∧ s.hasChan ch = true ∧ s.noPlan = true ∧ s.isJack = false
      ∧ (s.chan ch).homeClosed = true :=
  ⟨.b, slide.onChB fun c => { c with homeClosed := true }, by decide⟩

theorem witness_pulses_switches_and_stalls_move_the_channel_switch_open_8_home :
    ∃ (_sw : EndSwitch) (ch : ChanId) (s : State), s.active = true ∧ s.hasChan ch = true ∧ s.noPlan = true
      ∧ s.pairClosed ch = true ∧ (s.pairClosed ch.other = false ∨ s.isSlide = false) :=
  ⟨.home, .a, faulted .sensor 0xFF04 (awning.onChA fun c => { c with homeClosed := true, outClosed := true }),
    by decide⟩

theorem witness_pulses_switches_and_stalls_move_the_channel_switch_open_8_out :
    ∃ (_sw : EndSwitch) (ch : ChanId) (s : State), s.active = true ∧ s.hasChan ch = true ∧ s.noPlan = true
      ∧ s.pairClosed ch = true ∧ (s.pairClosed ch.other = false ∨ s.isSlide = false) :=
  ⟨.out, .b, faulted .sensor 0xFF04 (slide.onChB fun c => { c with homeClosed := true, outClosed := true }),
    by decide⟩

theorem witness_pulses_switches_and_stalls_move_the_channel_stall_9_out :
    ∃ (ch : ChanId) (s : State), s.active = true ∧ s.hasChan ch = true ∧ s.pressing = false ∧ s.noPlan = true
      ∧ (s.chan ch).act = .driving ∧ (s.chan ch).applied ≠ 0 ∧ s.shortOfTravel = true
      ∧ s.inEndZone ch (s.chan ch).drvDir = true :=
  ⟨.a, (moving .extend .extend .extend).onChA fun c => { c with count := 95 }, by decide⟩

theorem witness_pulses_switches_and_stalls_move_the_channel_stall_9_home :
    ∃ (ch : ChanId) (s : State), s.active = true ∧ s.hasChan ch = true ∧ s.pressing = false ∧ s.noPlan = true
      ∧ (s.chan ch).act = .driving ∧ (s.chan ch).applied ≠ 0 ∧ s.shortOfTravel = true
      ∧ s.inEndZone ch (s.chan ch).drvDir = true :=
  ⟨.a, (moving .retract .retract .retract).onChA fun c => { c with count := 5 }, by decide⟩

theorem witness_pulses_switches_and_stalls_move_the_channel_stall_10_out :
    ∃ (ch : ChanId) (s : State), s.active = true ∧ s.hasChan ch = true ∧ s.pressing = false ∧ s.noPlan = true
      ∧ (s.chan ch).act = .driving ∧ (s.chan ch).applied ≠ 0 ∧ s.inEndZone ch (s.chan ch).drvDir = false
      ∧ (s.chan ch).retries < s.retryLimit ∧ s.shortOfTravel = true :=
  ⟨.a, (moving .extend .extend .extend).onChA fun c => { c with count := 94, retries := 1 }, by decide⟩

theorem witness_pulses_switches_and_stalls_move_the_channel_stall_10_home :
    ∃ (ch : ChanId) (s : State), s.active = true ∧ s.hasChan ch = true ∧ s.pressing = false ∧ s.noPlan = true
      ∧ (s.chan ch).act = .driving ∧ (s.chan ch).applied ≠ 0 ∧ s.inEndZone ch (s.chan ch).drvDir = false
      ∧ (s.chan ch).retries < s.retryLimit ∧ s.shortOfTravel = true :=
  ⟨.a, (moving .retract .retract .retract).onChA fun c => { c with count := 6 }, by decide⟩

theorem witness_pulses_switches_and_stalls_move_the_channel_stall_11 :
    ∃ (ch : ChanId) (s : State), s.active = true ∧ s.hasChan ch = true ∧ s.pressing = false ∧ s.noPlan = true
      ∧ (s.chan ch).act = .driving ∧ (s.chan ch).applied ≠ 0 ∧ s.inEndZone ch (s.chan ch).drvDir = false
      ∧ s.retryLimit ≤ (s.chan ch).retries ∧ s.keepTrying = false ∧ s.retryLimit = 2 :=
  ⟨.a, (moving .extend .extend .extend).onChA fun c => { c with retries := 2 }, by decide⟩

theorem witness_pulses_switches_and_stalls_move_the_channel_stall_12_told :
    ∃ (ch : ChanId) (s : State), s.active = true ∧ s.hasChan ch = true ∧ s.pressing = false ∧ s.noPlan = true
      ∧ (s.chan ch).act = .driving ∧ (s.chan ch).applied ≠ 0 ∧ s.inEndZone ch (s.chan ch).drvDir = false
      ∧ s.retryLimit ≤ (s.chan ch).retries ∧ s.keepTrying = true ∧ s.shortOfTravel = true :=
  ⟨.a,
    ((moving .extend .extend .extend).setCal { record with chA := { chanCal with keepTrying := true } }).onChA fun c
      => { c with retries := 2, stallNoticed := true }, by decide⟩

theorem witness_pulses_switches_and_stalls_move_the_channel_stall_12_first :
    ∃ (ch : ChanId) (s : State), s.active = true ∧ s.hasChan ch = true ∧ s.pressing = false ∧ s.noPlan = true
      ∧ (s.chan ch).act = .driving ∧ (s.chan ch).applied ≠ 0 ∧ s.inEndZone ch (s.chan ch).drvDir = false
      ∧ s.retryLimit ≤ (s.chan ch).retries ∧ s.keepTrying = true ∧ s.shortOfTravel = true
      ∧ (s.chan .b).stallNoticed = false :=
  ⟨.b,
    (slideDrives .extend).setCal { record with
      chA := { chanCal with keepTrying := true }, chB := { chanCal with keepTrying := true } } |>.onChB fun c =>
      { c with retries := 2 }, by decide⟩

theorem witness_pulses_switches_and_stalls_move_the_channel_stall_13 :
    ∃ (ch : ChanId) (s : State), s.active = true ∧ s.hasChan ch = true ∧ s.pressing = true
      ∧ (s.chan ch).act = .driving ∧ (s.chan ch).applied ≠ 0 :=
  ⟨.a, (levelling .footing (some .foot) (jackDrives .level .extend)).onInp fun x => { x with isnsA := .units 20 },
    by decide⟩

theorem witness_pulses_switches_and_stalls_move_the_channel_encoder_pulse_14 :
    ∃ (s : State), s.active = true ∧ s.noPlan = true ∧ s.isJack = true ∧ s.chA.known = true
      ∧ s.chA.countDir = some .extend ∧ s.chA.count + 1 = s.cal.chA.pMax ∧ s.chA.carries = true
      ∧ s.chA.dir = some .extend ∧ s.ordersOk = true ∧ 0 < s.allowance :=
  ⟨(jackDrives .extend .extend).onChA fun c => { c with count := 99 }, by decide⟩

theorem witness_pulses_switches_and_stalls_move_the_channel_encoder_pulse_14_masked :
    ∃ (s : State), s.active = true ∧ s.noPlan = true ∧ s.isJack = true ∧ s.chA.known = true
      ∧ s.chA.countDir = some .extend ∧ s.chA.count + 1 = s.cal.chA.pMax ∧ s.chA.carries = true
      ∧ s.chA.dir = some .extend ∧ s.ordersOk = true ∧ 0 < s.allowance ∧ s.cal.stopMask.getLsbD 9 = true :=
  ⟨((jackDrives .extend .extend).setCal { record with stopMask := 0x200 }).onChA fun c => { c with count := 99 },
    by decide⟩

theorem witness_pulses_switches_and_stalls_move_the_channel_encoder_pulse_14_foot :
    ∃ (s : State), s.active = true ∧ s.noPlan = true ∧ s.isJack = true ∧ s.chA.known = true
      ∧ s.chA.countDir = some .extend ∧ s.chA.count + 1 = s.cal.chA.pMax ∧ s.chA.carries = true
      ∧ s.chA.dir = some .extend ∧ s.ordersOk = true ∧ 0 < s.allowance :=
  ⟨(levelling .footing (some .foot) (jackDrives .level .extend)).onChA fun c => { c with count := 99 }, by decide⟩

theorem witness_pulses_switches_and_stalls_move_the_channel_encoder_pulse_14_lift :
    ∃ (s : State), s.active = true ∧ s.noPlan = true ∧ s.isJack = true ∧ s.chA.known = true
      ∧ s.chA.countDir = some .extend ∧ s.chA.count + 1 = s.cal.chA.pMax ∧ s.chA.carries = true
      ∧ s.chA.dir = some .extend ∧ s.ordersOk = true ∧ 0 < s.allowance :=
  ⟨(levelling .lifting (some .lift) (jackDrives .level .extend)).onChA fun c => { c with count := 99 }, by decide⟩

theorem witness_pulses_switches_and_stalls_move_the_channel_encoder_pulse_14_snug :
    ∃ (s : State), s.active = true ∧ s.noPlan = true ∧ s.isJack = true ∧ s.chA.known = true
      ∧ s.chA.countDir = some .extend ∧ s.chA.count + 1 = s.cal.chA.pMax ∧ s.chA.carries = true
      ∧ s.chA.dir = some .extend ∧ s.ordersOk = true ∧ 0 < s.allowance :=
  ⟨(levelling .snugging (some .snug) (jackDrives .level .extend)).onChA fun c => { c with count := 99 }, by decide⟩

theorem witness_pulses_switches_and_stalls_move_the_channel_encoder_pulse_14_trim :
    ∃ (s : State), s.active = true ∧ s.noPlan = true ∧ s.isJack = true ∧ s.chA.known = true
      ∧ s.chA.countDir = some .extend ∧ s.chA.count + 1 = s.cal.chA.pMax ∧ s.chA.carries = true
      ∧ s.chA.dir = some .extend ∧ s.ordersOk = true ∧ 0 < s.allowance :=
  ⟨(levelling .trim (some .trim) (jackDrives .trim .extend)).onChA fun c => { c with count := 99 }, by decide⟩

theorem witness_pulses_switches_and_stalls_move_the_channel_encoder_pulse_15_top :
    ∃ (s : State), s.active = true ∧ s.noPlan = true ∧ s.isJack = true ∧ s.chA.known = true
      ∧ s.chA.countDir = some .retract ∧ s.chA.count ≤ s.cal.chA.pMax ∧ 0 < s.cal.chA.pMax
      ∧ s.hasFault .strokeLimit = true :=
  ⟨(faulted .strokeLimit 50 jack).onChA fun c => { c with
      count := 100, cls := .deployed, coast := some (.retract, 3) }, by decide⟩

theorem witness_pulses_switches_and_stalls_move_the_channel_encoder_pulse_15_bottom :
    ∃ (s : State), s.active = true ∧ s.noPlan = true ∧ s.isJack = true ∧ s.chA.known = true
      ∧ s.chA.countDir = some .retract ∧ s.chA.count ≤ s.cal.chA.pMax ∧ 0 < s.cal.chA.pMax :=
  ⟨jack.onChA fun c => { c with count := 0, cls := .stowed, coast := some (.retract, 3) }, by decide⟩

theorem witness_current_faults_the_channel_overcurrent_trip_1 :
    ∃ (ch : ChanId) (reading : Current) (s : State), s.node.mode = .run ∧ s.hasChan ch = true ∧ s.noPlan = true
      ∧ (s.chan ch).act ≠ .faulted ∧ reading.atLeast (s.cal.chan ch).trip = true ∧ s.cal.stopMask.getLsbD 4 = true
      ∧ s.stop.drive = .none :=
  ⟨.a, .units 40, moving .extend .extend .extend, by decide⟩

theorem witness_current_faults_the_channel_overcurrent_trip_1_wind :
    ∃ (ch : ChanId) (reading : Current) (s : State), s.node.mode = .run ∧ s.hasChan ch = true ∧ s.noPlan = true
      ∧ (s.chan ch).act ≠ .faulted ∧ reading.atLeast (s.cal.chan ch).trip = true ∧ s.anyCarries = true
      ∧ s.orders.cur.map (·.task) = some .windRetract :=
  ⟨.a, .units 40, (withOrder .windRetract .auto none awning).onChA (drives .retract .auto 60), by decide⟩

theorem witness_current_faults_the_channel_overcurrent_trip_1_scale :
    ∃ (ch : ChanId) (reading : Current) (s : State), s.node.mode = .run ∧ s.hasChan ch = true ∧ s.noPlan = true
      ∧ (s.chan ch).act ≠ .faulted ∧ reading.atLeast (s.cal.chan ch).trip = true :=
  ⟨.b, .fullScale, slideDrives .extend, by decide⟩

theorem witness_current_faults_the_channel_overcurrent_trip_1_masked :
    ∃ (ch : ChanId) (reading : Current) (s : State), s.node.mode = .run ∧ s.hasChan ch = true ∧ s.noPlan = true
      ∧ (s.chan ch).act ≠ .faulted ∧ reading.atLeast (s.cal.chan ch).trip = true ∧ s.cal.stopMask.getLsbD 4 = false :=
  ⟨.a, .units 300, (moving .extend .extend .extend).setCal { record with stopMask := 0 }, by decide⟩

theorem witness_current_faults_the_channel_overcurrent_trip_2 :
    ∃ (ch : ChanId) (reading : Current) (s : State), s.node.mode = .run ∧ s.hasChan ch = true
      ∧ reading.atLeast (s.cal.chan ch).trip = false :=
  ⟨.a, .units 39, awning, by decide⟩

theorem witness_current_faults_the_channel_overcurrent_trip_2_arisen :
    ∃ (ch : ChanId) (reading : Current) (s : State), s.node.mode = .run ∧ s.hasChan ch = true
      ∧ reading.atLeast (s.cal.chan ch).trip = false :=
  ⟨.a, .units 39,
    (faulted .overcurrent 41 awning).onChA fun c => { c with act := .faulted, fault := some (.stall, 3) },
    by decide⟩

theorem witness_current_faults_the_channel_idle_current_fail_3 :
    ∃ (ch : ChanId) (s : State), s.node.mode = .listen ∧ s.hasChan ch = true ∧ s.node.idleFailed ch = false
      ∧ (s.chan ch).act ≠ .faulted ∧ s.orders.cursor = none :=
  ⟨.b, inMode .listen slide, by decide⟩

theorem witness_current_faults_the_channel_idle_current_fail_4 :
    ∃ (ch : ChanId) (s : State), s.node.mode = .listen ∧ s.hasChan ch = true ∧ s.node.idleFailed ch = false
      ∧ (s.chan ch).act = .faulted ∧ s.orders.cursor = none :=
  ⟨.a,
    (inMode .listen (faulted .overcurrent 41 awning)).onChA fun c => { c with
      act := .faulted, fault := some (.overcurrent, 41) }, by decide⟩

theorem witness_current_faults_the_channel_idle_current_fail_4_masked :
    ∃ (ch : ChanId) (s : State), s.node.mode = .listen ∧ s.hasChan ch = true ∧ s.node.idleFailed ch = false
      ∧ (s.chan ch).act = .faulted ∧ s.orders.cursor = none ∧ s.stop.drive = .none ∧ s.cal.stopMask.getLsbD 4 = true :=
  ⟨.b, (inMode .listen slide).onChB fun c => { c with act := .faulted, fault := some (.stall, 3) }, by decide⟩

theorem witness_current_faults_the_channel_idle_current_fail_5 :
    ∃ (ch : ChanId) (s : State), s.node.mode = .listen ∧ s.node.idleFailed ch = true :=
  ⟨.a, (inMode .listen slide).onNode fun n => { n with idleFailedA := true }, by decide⟩

theorem witness_time_and_supply_fault_the_order_wall_time_limit_1 :
    ∃ (s : State), s.active = true ∧ s.noPlan = true
      ∧ (s.chanIds.any fun ch => (s.chan ch).act = .driving || (s.chan ch).act = .paused) = true
      ∧ s.anyCarries = true :=
  ⟨moving .extend .extend .extend, by decide⟩

theorem witness_time_and_supply_fault_the_order_low_supply_timeout_2 :
    ∃ (x : Nat × Nat) (s : State), s.active = true ∧ s.noPlan = true ∧ s.supply.low = some x ∧ s.anyDriving = true :=
  ⟨(500, 10499), (slideDrives .extend).onSupply fun u => { u with low := some (500, 10499) }, by decide⟩

theorem witness_time_and_supply_fault_the_order_low_supply_timeout_2_one_ram :
    ∃ (x : Nat × Nat) (s : State), s.active = true ∧ s.noPlan = true ∧ s.supply.low = some x ∧ s.anyDriving = true
      ∧ s.chB.carries = false :=
  ⟨(500, 10499),
    ((slideDrives .extend).onChB fun c => { c with act := .idle, order := none, applied := 0 }).onSupply fun u =>
      { u with low := some (500, 10499) }, by decide⟩

theorem witness_time_and_supply_fault_the_order_rack_timer_expiry_3 :
    ∃ (s : State), s.active = true ∧ s.noPlan = true ∧ s.isSlide = true ∧ s.square.rack.isSome = true
      ∧ s.bothKnown = true :=
  ⟨((slideDrives .extend).onSquare fun q => { q with rack := some 1000 }).onChA fun c => { c with count := 90 },
    by decide⟩

theorem witness_time_and_supply_fault_the_order_duty_step_4 :
    ∃ (d : DutyStep) (s : State), s.active = true ∧ s.noPlan = true ∧ s.anyDriving = true ∧ s.step = some d
      ∧ s.accLimit ≤ s.chA.acc + d.duty ∧ s.accLimit = 600000 :=
  ⟨{ duty := 60, age := 10 },
    ((moving .extend .extend .extend).onChA fun c => { c with acc := 599940 }).setStep
      (some { duty := 60, age := 10 }), by decide⟩

theorem witness_duty_step_accumulates_and_composes_duty_step_1 :
    ∃ (d : DutyStep) (s : State), s.active = true ∧ s.noPlan = true ∧ s.node.role = .awning ∧ s.step = some d
      ∧ s.chA.acc + d.duty < s.accLimit ∧ s.chA.act = .driving ∧ s.chB.act ≠ .driving ∧ 0 < s.supply.cap :=
  ⟨{ duty := 60, age := 10 },
    ((moving .extend .extend .extend).onChA fun c => { c with acc := 599939 }).setStep
      (some { duty := 60, age := 10 }), by decide⟩

theorem witness_duty_step_accumulates_and_composes_duty_step_3 :
    ∃ (d : DutyStep) (s : State), s.active = true ∧ s.noPlan = true ∧ s.node.role = .jack ∧ s.step = some d
      ∧ s.chA.acc + d.duty < s.accLimit ∧ s.chA.act = .driving ∧ s.chB.act ≠ .driving ∧ 0 < s.supply.cap
      ∧ s.waitsHeld = true ∧ s.accLimit = 600000 :=
  ⟨{ duty := 60, age := 0 }, (jackDrives .extend .extend).onChA fun c => { c with acc := 599939 }, by decide⟩

theorem witness_duty_step_accumulates_and_composes_duty_step_3_leg :
    ∃ (d : DutyStep) (s : State), s.active = true ∧ s.noPlan = true ∧ s.node.role = .jack ∧ s.step = some d
      ∧ s.chA.acc + d.duty < s.accLimit ∧ s.chA.act = .driving ∧ s.chB.act ≠ .driving ∧ 0 < s.supply.cap
      ∧ s.waitsHeld = true :=
  ⟨{ duty := 60, age := 0 },
    (levelling .lifting (some .lift) (jackDrives .level .extend)).onLevel fun l => { l with request := 100 },
    by decide⟩

theorem witness_duty_step_accumulates_and_composes_duty_step_4_both :
    ∃ (d : DutyStep) (s : State), s.active = true ∧ s.noPlan = true ∧ s.node.role = .slide ∧ s.step = some d
      ∧ s.chA.acc + d.duty < s.accLimit ∧ s.anyDriving = true
      ∧ (s.chanIds.all (fun ch => (s.chan ch).act ≠ .waiting ∧ (s.chan ch).act ≠ .paused) = true) ∧ 0 < s.supply.cap
      ∧ s.waitsHeld = true ∧ s.orders.cur.isSome = true :=
  ⟨{ duty := 60, age := 0 },
    (slideDrives .retract).onPeers fun _ => [entry 0 (jackBody .stable true), entry 1 (jackBody .stable true)],
    by decide⟩

theorem witness_duty_step_accumulates_and_composes_duty_step_4_one :
    ∃ (d : DutyStep) (s : State), s.active = true ∧ s.noPlan = true ∧ s.node.role = .slide ∧ s.step = some d
      ∧ s.chA.acc + d.duty < s.accLimit ∧ s.anyDriving = true
      ∧ (s.chanIds.all (fun ch => (s.chan ch).act ≠ .waiting ∧ (s.chan ch).act ≠ .paused) = true) ∧ 0 < s.supply.cap
      ∧ s.waitsHeld = true ∧ s.orders.cur.isSome = true :=
  ⟨{ duty := 60, age := 0 },
    ((slideDrives .extend).onChB fun c => { c with act := .idle, order := none, applied := 0 }).onPeers fun _ =>
      [entry 0 (jackBody .stable true), entry 1 (jackBody .stable true)], by decide⟩

theorem witness_settle_window_ends_in_a_decision_settle_window_end_1_admitted :
    ∃ (c : Claim) (s : State), s.active = true ∧ s.noPlan = true ∧ s.supply.claim = some c ∧ c.standing = .settling
      ∧ s.supply.passes = 0 ∧ s.shortOfTravel = true ∧ s.ordersOk = true
      ∧ 0 <
          budgetCap (s.cal.bTotal - s.aheadSum (s.ownKey {
                amount := 30, baseClass := 3, standing := .settling, settle := 200 })) 30 ∧ s.outReads .a = false :=
  ⟨{ amount := 30, baseClass := 3, standing := .settling, settle := 200 },
    ((withOrder .extend .held none awning).onChA fun c => { c with
        act := .waiting, order := some { origin := .held, dir := .extend, age := 0 } }).onSupply fun u =>
      { u with claim := some { amount := 30, baseClass := 3, standing := .settling, settle := 200 }, cap := 0 },
    by decide⟩

theorem witness_settle_window_ends_in_a_decision_settle_window_end_1_denied :
    ∃ (c : Claim) (s : State), s.active = true ∧ s.noPlan = true ∧ s.supply.claim = some c ∧ c.standing = .settling
      ∧ s.supply.passes = 0 ∧ s.shortOfTravel = true ∧ s.ordersOk = true
      ∧ budgetCap (s.cal.bTotal - s.aheadSum (s.ownKey {
                amount := 30, baseClass := 3, standing := .settling, settle := 200 })) 30 = 0 :=
  ⟨{ amount := 30, baseClass := 3, standing := .settling, settle := 200 },
    (((withOrder .extend .held none awning).onChA fun c => { c with
          act := .waiting, order := some { origin := .held, dir := .extend, age := 0 } }).onSupply fun u =>
        { u with
          claim := some { amount := 30, baseClass := 3, standing := .settling, settle := 200 }, cap := 0 }).setCal
      { record with bTotal := 7 }, by decide⟩

theorem witness_supply_and_temperature_set_the_caps_supply_sense_reading_1_full :
    ∃ (_mv : Nat) (s : State), s.active = true ∧ s.cal.vFloor < s.cal.vDroop ∧ s.cal.vDroop = 11400 :=
  ⟨11400, awning, by decide⟩

theorem witness_supply_and_temperature_set_the_caps_supply_sense_reading_1_between :
    ∃ (_mv : Nat) (s : State), s.active = true ∧ s.cal.vFloor < s.cal.vDroop :=
  ⟨11399, awning, by decide⟩

theorem witness_supply_and_temperature_set_the_caps_supply_sense_reading_1_above_floor :
    ∃ (_mv : Nat) (s : State), s.active = true ∧ s.cal.vFloor < s.cal.vDroop :=
  ⟨10501, awning, by decide⟩

theorem witness_supply_and_temperature_set_the_caps_supply_sense_reading_1_floor :
    ∃ (_mv : Nat) (s : State), s.active = true ∧ s.cal.vFloor < s.cal.vDroop ∧ s.cal.vFloor = 10500 :=
  ⟨10500, awning, by decide⟩

theorem witness_supply_and_temperature_set_the_caps_temperature_reading_2_hot :
    ∃ (x : Int) (s : State), s.active = true ∧ s.hasSensor 0xFF05#16 = false ∧ x < 150 :=
  ⟨115, awning, by decide⟩

theorem witness_supply_and_temperature_set_the_caps_temperature_reading_2_kept :
    ∃ (x : Int) (s : State), s.active = true ∧ s.hasSensor 0xFF05#16 = false ∧ x < 150 :=
  ⟨114, awning.onSupply fun u => { u with hot := true }, by decide⟩

theorem witness_supply_and_temperature_set_the_caps_temperature_reading_2_low_kept :
    ∃ (x : Int) (s : State), s.active = true ∧ s.hasSensor 0xFF05#16 = false ∧ x < 150 :=
  ⟨106, awning, by decide⟩

theorem witness_supply_and_temperature_set_the_caps_temperature_reading_2_clear :
    ∃ (x : Int) (s : State), s.active = true ∧ s.hasSensor 0xFF05#16 = false ∧ x < 150 :=
  ⟨105, awning.onSupply fun u => { u with hot := true }, by decide⟩

theorem witness_supply_and_temperature_set_the_caps_temperature_reading_2_near :
    ∃ (x : Int) (s : State), s.active = true ∧ s.hasSensor 0xFF05#16 = false ∧ x < 150 :=
  ⟨149, awning, by decide⟩

theorem witness_supply_and_temperature_set_the_caps_temperature_reading_3 :
    ∃ (x : Int) (s : State), s.active = true ∧ s.hasSensor 0xFF05#16 = false ∧ 150 ≤ x :=
  ⟨150, moving .extend .extend .extend, by decide⟩

theorem witness_supply_and_temperature_set_the_caps_temperature_reading_4 :
    ∃ (_x : Int) (s : State), s.active = true ∧ s.hasSensor 0xFF05#16 = true :=
  ⟨150, faulted .sensor 0xFF05 awning, by decide⟩

theorem witness_readings_give_attitude_and_consensus_inclinometer_reading_1 :
    ∃ (_r : Option (Int × Int)) (s : State), s.active = true ∧ s.isJack = true ∧ s.bus.err ≠ .off :=
  ⟨some (1600, -7), jack, by decide⟩

theorem witness_readings_give_attitude_and_consensus_inclinometer_reading_1_missed :
    ∃ (_r : Option (Int × Int)) (s : State), s.active = true ∧ s.isJack = true ∧ s.bus.err ≠ .off :=
  ⟨none, jack.onLevel fun l => { l with window := [(1, 2)] }, by decide⟩

theorem witness_readings_give_attitude_and_consensus_inclinometer_reading_1_first :
    ∃ (_r : Option (Int × Int)) (s : State), s.active = true ∧ s.isJack = true ∧ s.bus.err ≠ .off :=
  ⟨none, jack, by decide⟩

theorem witness_readings_give_attitude_and_consensus_inclinometer_reading_2_rest :
    ∃ (r : Option (Int × Int)) (s : State), s.active = true ∧ s.isJack = true ∧ s.bus.err ≠ .off ∧ s.noPlan = true
      ∧ (r.all (fun x => decide (1500 < x.1.natAbs ∨ 1500 < x.2.natAbs)) = true) ∧ s.hasSensor 0xFF06#16 = false :=
  ⟨some (1501, 0), jack, by decide⟩

theorem witness_readings_give_attitude_and_consensus_inclinometer_reading_2_session :
    ∃ (r : Option (Int × Int)) (s : State), s.active = true ∧ s.isJack = true ∧ s.bus.err ≠ .off ∧ s.noPlan = true
      ∧ (r.all (fun x => decide (1500 < x.1.natAbs ∨ 1500 < x.2.natAbs)) = true) ∧ s.hasSensor 0xFF06#16 = false
      ∧ inSession s.level.phase = true :=
  ⟨none, levelling .lifting (some .lift) (jackDrives .level .extend), by decide⟩

theorem witness_readings_give_attitude_and_consensus_inclinometer_reading_2_roll :
    ∃ (r : Option (Int × Int)) (s : State), s.active = true ∧ s.isJack = true ∧ s.bus.err ≠ .off ∧ s.noPlan = true
      ∧ (r.all (fun x => decide (1500 < x.1.natAbs ∨ 1500 < x.2.natAbs)) = true) ∧ s.hasSensor 0xFF06#16 = false
      ∧ s.stop.drive = .none ∧ s.cal.stopMask.getLsbD 6 = true :=
  ⟨some (0, -1501), jack.setCal { record with stopMask := 0x40 }, by decide⟩

theorem witness_readings_give_attitude_and_consensus_inclinometer_reading_3 :
    ∃ (r : Option (Int × Int)) (s : State), s.active = true ∧ s.isJack = true ∧ s.bus.err ≠ .off
      ∧ (r.all (fun x => decide (1500 < x.1.natAbs ∨ 1500 < x.2.natAbs)) = true) ∧ s.hasSensor 0xFF06#16 = true
      ∧ s.node.mode = .run ∧ s.noPlan = true ∧ s.shortOfTravel = true ∧ s.anyCarries = false ∧ s.tiltOk = true :=
  ⟨some (-1501, 0), faulted .sensor 0xFF06 jack, by decide⟩

theorem witness_readings_give_attitude_and_consensus_inclinometer_reading_4_first :
    ∃ (r : Option (Int × Int)) (s : State), s.node.mode = .listen ∧ s.isJack = true ∧ s.bus.err ≠ .off
      ∧ s.noPlan = true ∧ s.anyCarries = false ∧ s.orders.cur = none
      ∧ (r.all (fun x => decide (1500 < x.1.natAbs ∨ 1500 < x.2.natAbs)) = true) ∧ 0 < s.level.checkLeft
      ∧ s.hasSensor 0xFF06#16 = false :=
  ⟨none, (inMode .listen jack).onLevel fun l => { l with checkLeft := 4 }, by decide⟩

theorem witness_readings_give_attitude_and_consensus_inclinometer_reading_4_listed :
    ∃ (r : Option (Int × Int)) (s : State), s.node.mode = .listen ∧ s.isJack = true ∧ s.bus.err ≠ .off
      ∧ s.noPlan = true ∧ s.anyCarries = false ∧ s.orders.cur = none
      ∧ (r.all (fun x => decide (1500 < x.1.natAbs ∨ 1500 < x.2.natAbs)) = true) ∧ 0 < s.level.checkLeft
      ∧ s.hasSensor 0xFF06#16 = true :=
  ⟨some (1501, 0), (inMode .listen (faulted .sensor 0xFF06 jack)).onLevel fun l => { l with checkLeft := 1 },
    by decide⟩

theorem witness_readings_give_attitude_and_consensus_inclinometer_reading_5_fourth :
    ∃ (r : Option (Int × Int)) (s : State), s.active = true ∧ s.isJack = true ∧ s.bus.err ≠ .off
      ∧ (r.any (fun x => decide (x.1.natAbs ≤ 1500 ∧ x.2.natAbs ≤ 1500)) = true) ∧ s.hasSensor 0xFF06#16 = true :=
  ⟨some (1500, -1500), (faulted .sensor 0xFF06 jack).onLevel fun l => { l with goodRun := 3 }, by decide⟩

theorem witness_readings_give_attitude_and_consensus_inclinometer_reading_5_third :
    ∃ (r : Option (Int × Int)) (s : State), s.active = true ∧ s.isJack = true ∧ s.bus.err ≠ .off
      ∧ (r.any (fun x => decide (x.1.natAbs ≤ 1500 ∧ x.2.natAbs ≤ 1500)) = true) :=
  ⟨some (0, 0), (faulted .sensor 0xFF06 jack).onLevel fun l => { l with goodRun := 2 }, by decide⟩

theorem witness_lift_is_the_highest_corners_lead_posture_beacon_1_limit :
    ∃ (source : Nat) (d : Data8) (b : Beacon) (s : State), s.delivers .postureBeacon source = true ∧ s.active = true
      ∧ source ≠ s.node.station ∧ stationRole source = .jack ∧ decodeBeacon source d = some b ∧ s.isJack = true
      ∧ (s.level.phase = .lifting ∨ s.level.phase = .trim) ∧ s.noPlan = true ∧ s.ordersOk = true
      ∧ s.shortOfTravel = true ∧ 0 < s.allowance ∧ (s.level.leg.isSome = true ∨ s.supply.claim = none)
      ∧ s.road.stow ≠ .heldBack
      ∧ (after (.postureBeacon 1 (encodeBeacon (told (pitched (-21) false)))) s (fun t =>
                decide (s.cal.deadband < t.lift ∧ t.remaining + 1 = t.lift)) = true) :=
  ⟨1, encodeBeacon (told (pitched (-21) false)), told (pitched (-21) false), lifting (-21) 42, by decide⟩

theorem witness_lift_is_the_highest_corners_lead_posture_beacon_1_room :
    ∃ (source : Nat) (d : Data8) (b : Beacon) (s : State), s.delivers .postureBeacon source = true ∧ s.active = true
      ∧ source ≠ s.node.station ∧ stationRole source = .jack ∧ decodeBeacon source d = some b ∧ s.isJack = true
      ∧ (s.level.phase = .lifting ∨ s.level.phase = .trim) ∧ s.noPlan = true ∧ s.ordersOk = true
      ∧ s.shortOfTravel = true ∧ 0 < s.allowance ∧ (s.level.leg.isSome = true ∨ s.supply.claim = none)
      ∧ s.road.stow ≠ .heldBack
      ∧ after (.postureBeacon 1 (encodeBeacon (told (pitched (-21) false)))) s (fun t =>
              decide (t.lift = t.remaining)) = true :=
  ⟨1, encodeBeacon (told (pitched (-21) false)), told (pitched (-21) false), lifting (-21) 40, by decide⟩

theorem witness_lift_is_the_highest_corners_lead_posture_beacon_1_flat :
    ∃ (source : Nat) (d : Data8) (b : Beacon) (s : State), s.delivers .postureBeacon source = true ∧ s.active = true
      ∧ source ≠ s.node.station ∧ stationRole source = .jack ∧ decodeBeacon source d = some b ∧ s.isJack = true
      ∧ (s.level.phase = .lifting ∨ s.level.phase = .trim) ∧ s.noPlan = true ∧ s.ordersOk = true
      ∧ s.shortOfTravel = true ∧ 0 < s.allowance ∧ (s.level.leg.isSome = true ∨ s.supply.claim = none)
      ∧ s.road.stow ≠ .heldBack
      ∧ after (.postureBeacon 1 (encodeBeacon (told (pitched (-21) false)))) s (fun t =>
              decide (t.lift = t.cal.deadband)) = true :=
  ⟨1, encodeBeacon (told (pitched (-21) false)), told (pitched (-21) false),
    ((lifting (-21) 40)).setCal { record with deadband := 30 }, by decide⟩

theorem witness_lift_is_the_highest_corners_lead_posture_beacon_1_level :
    ∃ (source : Nat) (d : Data8) (b : Beacon) (s : State), s.delivers .postureBeacon source = true ∧ s.active = true
      ∧ source ≠ s.node.station ∧ stationRole source = .jack ∧ decodeBeacon source d = some b ∧ s.isJack = true
      ∧ (s.level.phase = .lifting ∨ s.level.phase = .trim) ∧ s.noPlan = true ∧ s.ordersOk = true
      ∧ s.shortOfTravel = true ∧ 0 < s.allowance ∧ (s.level.leg.isSome = true ∨ s.supply.claim = none)
      ∧ s.road.stow ≠ .heldBack
      ∧ after (.postureBeacon 1 (encodeBeacon (told (pitched 20 false)))) s (fun t =>
              decide (t.levelTest = true)) = true :=
  ⟨1, encodeBeacon (told (pitched 20 false)), told (pitched 20 false), lifting 20 40, by decide⟩

theorem witness_lift_is_the_highest_corners_lead_posture_beacon_1_foot :
    ∃ (source : Nat) (d : Data8) (b : Beacon) (s : State), s.delivers .postureBeacon source = true ∧ s.active = true
      ∧ source ≠ s.node.station ∧ stationRole source = .jack ∧ decodeBeacon source d = some b ∧ s.isJack = true
      ∧ (s.level.phase = .lifting ∨ s.level.phase = .trim) ∧ s.noPlan = true ∧ s.ordersOk = true
      ∧ s.shortOfTravel = true ∧ 0 < s.allowance ∧ (s.level.leg.isSome = true ∨ s.supply.claim = none)
      ∧ s.road.stow ≠ .heldBack
      ∧ after (.postureBeacon 1 (encodeBeacon (told (pitched 20 false)))) s (fun t =>
              decide (t.levelTest = true)) = true :=
  ⟨1, encodeBeacon (told (pitched 20 false)), told (pitched 20 false),
    (((lifting 20 40)).setCal { record with footFitted := true }).onLevel fun l => { l with footClosed := true },
    by decide⟩

theorem witness_lift_is_the_highest_corners_lead_posture_beacon_1_peer_limit :
    ∃ (source : Nat) (d : Data8) (b : Beacon) (s : State), s.delivers .postureBeacon source = true ∧ s.active = true
      ∧ source ≠ s.node.station ∧ stationRole source = .jack ∧ decodeBeacon source d = some b ∧ s.isJack = true
      ∧ (s.level.phase = .lifting ∨ s.level.phase = .trim) ∧ s.noPlan = true ∧ s.ordersOk = true
      ∧ s.shortOfTravel = true ∧ 0 < s.allowance ∧ (s.level.leg.isSome = true ∨ s.supply.claim = none)
      ∧ s.road.stow ≠ .heldBack :=
  ⟨1, encodeBeacon (told (pitched 21 true)), told (pitched 21 true), lifting 21 40, by decide⟩

theorem witness_lift_is_the_highest_corners_lead_inclinometer_reading_2_limit :
    ∃ (r : Option (Int × Int)) (s : State), s.active = true ∧ s.bus.err ≠ .off
      ∧ (r.any (fun x => decide (x.1.natAbs ≤ 1500 ∧ x.2.natAbs ≤ 1500)) = true) ∧ s.isJack = true
      ∧ (s.level.phase = .lifting ∨ s.level.phase = .trim) ∧ s.noPlan = true ∧ s.ordersOk = true
      ∧ s.shortOfTravel = true ∧ 0 < s.allowance ∧ (s.level.leg.isSome = true ∨ s.supply.claim = none)
      ∧ (after (.inclinometerReading (some (-21, 0))) s (fun t =>
                decide (s.cal.deadband < t.lift ∧ t.remaining + 1 = t.lift)) = true) :=
  ⟨some (-21, 0), lifting (-21) 42, by decide⟩

theorem witness_lift_is_the_highest_corners_lead_inclinometer_reading_2_room :
    ∃ (r : Option (Int × Int)) (s : State), s.active = true ∧ s.bus.err ≠ .off
      ∧ (r.any (fun x => decide (x.1.natAbs ≤ 1500 ∧ x.2.natAbs ≤ 1500)) = true) ∧ s.isJack = true
      ∧ (s.level.phase = .lifting ∨ s.level.phase = .trim) ∧ s.noPlan = true ∧ s.ordersOk = true
      ∧ s.shortOfTravel = true ∧ 0 < s.allowance ∧ (s.level.leg.isSome = true ∨ s.supply.claim = none)
      ∧ after (.inclinometerReading (some (-21, 0))) s (fun t => decide (t.lift = t.remaining)) = true :=
  ⟨some (-21, 0), lifting (-21) 40, by decide⟩

theorem witness_lift_is_the_highest_corners_lead_inclinometer_reading_2_flat :
    ∃ (r : Option (Int × Int)) (s : State), s.active = true ∧ s.bus.err ≠ .off
      ∧ (r.any (fun x => decide (x.1.natAbs ≤ 1500 ∧ x.2.natAbs ≤ 1500)) = true) ∧ s.isJack = true
      ∧ (s.level.phase = .lifting ∨ s.level.phase = .trim) ∧ s.noPlan = true ∧ s.ordersOk = true
      ∧ s.shortOfTravel = true ∧ 0 < s.allowance ∧ (s.level.leg.isSome = true ∨ s.supply.claim = none)
      ∧ after (.inclinometerReading (some (-21, 0))) s (fun t => decide (t.lift = t.cal.deadband)) = true :=
  ⟨some (-21, 0), ((lifting (-21) 40)).setCal { record with deadband := 30 }, by decide⟩

theorem witness_lift_is_the_highest_corners_lead_inclinometer_reading_2_level :
    ∃ (r : Option (Int × Int)) (s : State), s.active = true ∧ s.bus.err ≠ .off
      ∧ (r.any (fun x => decide (x.1.natAbs ≤ 1500 ∧ x.2.natAbs ≤ 1500)) = true) ∧ s.isJack = true
      ∧ (s.level.phase = .lifting ∨ s.level.phase = .trim) ∧ s.noPlan = true ∧ s.ordersOk = true
      ∧ s.shortOfTravel = true ∧ 0 < s.allowance ∧ (s.level.leg.isSome = true ∨ s.supply.claim = none)
      ∧ after (.inclinometerReading (some (20, 0))) s (fun t => decide (t.levelTest = true)) = true :=
  ⟨some (20, 0), lifting 20 40, by decide⟩

theorem witness_lift_is_the_highest_corners_lead_inclinometer_reading_2_foot :
    ∃ (r : Option (Int × Int)) (s : State), s.active = true ∧ s.bus.err ≠ .off
      ∧ (r.any (fun x => decide (x.1.natAbs ≤ 1500 ∧ x.2.natAbs ≤ 1500)) = true) ∧ s.isJack = true
      ∧ (s.level.phase = .lifting ∨ s.level.phase = .trim) ∧ s.noPlan = true ∧ s.ordersOk = true
      ∧ s.shortOfTravel = true ∧ 0 < s.allowance ∧ (s.level.leg.isSome = true ∨ s.supply.claim = none)
      ∧ after (.inclinometerReading (some (20, 0))) s (fun t => decide (t.levelTest = true)) = true :=
  ⟨some (20, 0),
    (((lifting 20 40)).setCal { record with footFitted := true }).onLevel fun l => { l with footClosed := true },
    by decide⟩

theorem witness_lift_is_the_highest_corners_lead_inclinometer_reading_2_missing :
    ∃ (r : Option (Int × Int)) (s : State), s.active = true ∧ s.bus.err ≠ .off
      ∧ (r.any (fun x => decide (x.1.natAbs ≤ 1500 ∧ x.2.natAbs ≤ 1500)) = true) ∧ s.isJack = true
      ∧ (s.level.phase = .lifting ∨ s.level.phase = .trim) ∧ s.noPlan = true ∧ s.ordersOk = true
      ∧ s.shortOfTravel = true ∧ 0 < s.allowance ∧ (s.level.leg.isSome = true ∨ s.supply.claim = none) :=
  ⟨some (0, 0), (lifting 0 40).onPeers fun _ => [], by decide⟩

theorem witness_lift_is_the_highest_corners_lead_inclinometer_reading_2_trim :
    ∃ (r : Option (Int × Int)) (s : State), s.active = true ∧ s.bus.err ≠ .off
      ∧ (r.any (fun x => decide (x.1.natAbs ≤ 1500 ∧ x.2.natAbs ≤ 1500)) = true) ∧ s.isJack = true
      ∧ (s.level.phase = .lifting ∨ s.level.phase = .trim) ∧ s.noPlan = true ∧ s.ordersOk = true
      ∧ s.shortOfTravel = true ∧ 0 < s.allowance ∧ (s.level.leg.isSome = true ∨ s.supply.claim = none) :=
  ⟨some (-21, 0),
    hearing (entry 1 (pitched (-21) false)) ((levelling .trim none (withOrder .trim .latched none jack)).onSupply
        fun u => { u with claim := none, cap := 0 }), by decide⟩

theorem witness_foot_reaches_the_ground_contact_current_1 :
    ∃ (s : State), s.active = true ∧ s.noPlan = true ∧ s.isJack = true ∧ s.chA.act = .driving
      ∧ s.level.leg = some .foot ∧ s.level.phase = .footing ∧ s.notInContact ≠ [] ∧ s.shortOfTravel = true :=
  ⟨levelling .footing (some .foot) (jackDrives .level .extend), by decide⟩

theorem witness_foot_reaches_the_ground_contact_current_2 :
    ∃ (s : State), s.active = true ∧ s.noPlan = true ∧ s.isJack = true ∧ s.chA.act = .driving
      ∧ s.level.leg = some .snug ∧ s.shortOfTravel = true :=
  ⟨levelling .snugging (some .snug) (jackDrives .level .extend), by decide⟩

theorem witness_foot_reaches_the_ground_foot_switch_close_3 :
    ∃ (s : State), s.active = true ∧ s.footFitted = true ∧ s.rests = true ∧ s.level.phase = .none
      ∧ s.level.leg = none ∧ s.orders.idleReached = false :=
  ⟨jack.setCal { record with footFitted := true }, by decide⟩

theorem witness_foot_reaches_the_ground_foot_switch_open_4 :
    ∃ (s : State), s.active = true ∧ s.footFitted = true :=
  ⟨(jack.setCal { record with footFitted := true }).onLevel fun l => { l with contact := true, footClosed := true },
    by decide⟩

theorem witness_waiting_for_peers_ends_the_session_footing_wait_expiry_1 :
    ∃ (s : State), s.active = true ∧ s.noPlan = true ∧ s.isJack = true ∧ s.level.phase = .footing
      ∧ s.level.footing.isSome = true :=
  ⟨(levelling .footing none (withOrder .level .latched none jack)).onLevel fun l =>
      { l with footing := some 30000 }, by decide⟩

theorem witness_waiting_for_peers_ends_the_session_missing_timer_expiry_2_lifting :
    ∃ (s : State), s.active = true ∧ s.noPlan = true ∧ s.isJack = true
      ∧ (s.level.phase = .lifting ∨ s.level.phase = .trim) ∧ s.level.missing.isSome = true :=
  ⟨(levelling .lifting none (withOrder .level .latched none jack)).onLevel fun l => { l with missing := some 1000 },
    by decide⟩

theorem witness_waiting_for_peers_ends_the_session_missing_timer_expiry_2_trim :
    ∃ (s : State), s.active = true ∧ s.noPlan = true ∧ s.isJack = true
      ∧ (s.level.phase = .lifting ∨ s.level.phase = .trim) ∧ s.level.missing.isSome = true :=
  ⟨(levelling .trim none (withOrder .trim .latched none jack)).onLevel fun l => { l with missing := some 1000 },
    by decide⟩

theorem witness_settling_and_trim_decide_settle_time_end_1_level :
    ∃ (s : State), s.active = true ∧ s.noPlan = true ∧ s.isJack = true ∧ s.level.phase = .settling
      ∧ s.level.settle.isSome = true ∧ (s.levelTest = true ∨ s.level.bestEffort = true ∨ s.level.relift = 3)
      ∧ s.ordersOk = true ∧ s.levelTest = true :=
  ⟨(levelling .settling none (withOrder .level .latched none jack)).onLevel fun l =>
      { l with settle := some 2000, p := 20, q := -20 }, by decide⟩

theorem witness_settling_and_trim_decide_settle_time_end_1_best :
    ∃ (s : State), s.active = true ∧ s.noPlan = true ∧ s.isJack = true ∧ s.level.phase = .settling
      ∧ s.level.settle.isSome = true ∧ (s.levelTest = true ∨ s.level.bestEffort = true ∨ s.level.relift = 3)
      ∧ s.ordersOk = true ∧ s.levelTest = false :=
  ⟨(levelling .settling none (withOrder .level .latched none jack)).onLevel fun l =>
      { l with settle := some 2000, p := 21, bestEffort := true }, by decide⟩

theorem witness_settling_and_trim_decide_settle_time_end_1_third :
    ∃ (s : State), s.active = true ∧ s.noPlan = true ∧ s.isJack = true ∧ s.level.phase = .settling
      ∧ s.level.settle.isSome = true ∧ (s.levelTest = true ∨ s.level.bestEffort = true ∨ s.level.relift = 3)
      ∧ s.ordersOk = true ∧ s.level.bestEffort = false :=
  ⟨(levelling .settling none (withOrder .level .latched none jack)).onLevel fun l =>
      { l with settle := some 2000, q := -21, relift := 3 }, by decide⟩

theorem witness_settling_and_trim_decide_settle_time_end_2_relift :
    ∃ (s : State), s.active = true ∧ s.noPlan = true ∧ s.isJack = true ∧ s.level.phase = .settling
      ∧ s.level.settle.isSome = true ∧ s.shortOfTravel = true ∧ s.levelTest = false ∧ s.level.bestEffort = false
      ∧ s.level.relift < 3 ∧ s.ordersOk = true :=
  ⟨(levelling .settling none (withOrder .level .latched none jack)).onLevel fun l =>
      { l with settle := some 2000, p := 21, relift := 2 }, by decide⟩

theorem witness_settling_and_trim_decide_settle_time_end_2_steep :
    ∃ (s : State), s.active = true ∧ s.noPlan = true ∧ s.isJack = true ∧ s.level.phase = .settling
      ∧ s.level.settle.isSome = true ∧ s.shortOfTravel = true ∧ s.levelTest = false ∧ s.level.bestEffort = false
      ∧ s.level.relift < 3 ∧ s.ordersOk = true ∧ s.steep = true :=
  ⟨(levelling .settling none (withOrder .level .latched none jack)).onLevel fun l =>
      { l with settle := some 2000, p := 401 }, by decide⟩

theorem witness_settling_and_trim_decide_trim_dwell_complete_3 :
    ∃ (s : State), s.node.mode = .run ∧ s.noPlan = true ∧ s.isJack = true ∧ s.bus.err ≠ .off
      ∧ s.level.phase = .stable ∧ s.level.dwell.isSome = true ∧ (s.cal.autoTrim = false ∨ s.level.bestEffort = true)
      ∧ s.ordersOk = true :=
  ⟨(levelling .stable none jack).onLevel fun l => { l with dwell := some 5000, q := 41 }, by decide⟩

theorem witness_settling_and_trim_decide_trim_dwell_complete_4 :
    ∃ (s : State), s.node.mode = .run ∧ s.isJack = true ∧ s.bus.err ≠ .off ∧ s.level.phase = .stable
      ∧ s.level.dwell.isSome = true ∧ s.cal.autoTrim = true ∧ s.level.bestEffort = false ∧ s.rests = true
      ∧ s.level.leg = none ∧ 0 < s.allowance ∧ s.stepOk = true ∧ s.steep = false :=
  ⟨((levelling .stable none jack).onLevel fun l => { l with dwell := some 5000, p := 41 }).setCal
      { record with autoTrim := true }, by decide⟩

theorem witness_settling_and_trim_decide_trim_dwell_complete_4_steep :
    ∃ (s : State), s.node.mode = .run ∧ s.isJack = true ∧ s.bus.err ≠ .off ∧ s.level.phase = .stable
      ∧ s.level.dwell.isSome = true ∧ s.cal.autoTrim = true ∧ s.level.bestEffort = false ∧ s.rests = true
      ∧ s.level.leg = none ∧ 0 < s.allowance ∧ s.stepOk = true ∧ s.steep = true :=
  ⟨((levelling .stable none jack).onLevel fun l => { l with dwell := some 5000, p := -401 }).setCal
      { record with autoTrim := true }, by decide⟩

theorem witness_rack_and_grace_guard_the_slide_grace_expiry_1 :
    ∃ (s : State), s.active = true ∧ s.noPlan = true ∧ s.isSlide = true ∧ s.square.grace.isSome = true
      ∧ s.orders.cur.isSome = true :=
  ⟨(slideDrives .extend).onSquare fun q => { q with lost := true, grace := some 2000 }, by decide⟩

theorem witness_windows_and_pulses_measure_the_wind_wind_window_complete_1_high :
    ∃ (s : State), s.active = true ∧ s.wind.window.isSome = true ∧ s.orders.cur.map (·.task) ≠ some .windRetract
      ∧ 0 < s.allowance ∧ s.orders.idleReached = false ∧ s.stepOk = true ∧ s.cal.wR = 30 :=
  ⟨(awning.setCal { record with windSource := true }).onWind fun x => { x with pulses := 30 }, by decide⟩

theorem witness_windows_and_pulses_measure_the_wind_wind_window_complete_1_low :
    ∃ (s : State), s.active = true ∧ s.wind.window.isSome = true ∧ s.orders.cur.map (·.task) ≠ some .windRetract
      ∧ 0 < s.allowance ∧ s.orders.idleReached = false ∧ s.stepOk = true :=
  ⟨(awning.setCal { record with windSource := true }).onWind fun x => { x with pulses := 29, highRun := 2 },
    by decide⟩

theorem witness_windows_and_pulses_measure_the_wind_wind_window_complete_1_unknown :
    ∃ (s : State), s.active = true ∧ s.wind.window.isSome = true ∧ s.orders.cur.map (·.task) ≠ some .windRetract
      ∧ 0 < s.allowance ∧ s.orders.idleReached = false ∧ s.stepOk = true ∧ s.windNow = 255 :=
  ⟨awning, by decide⟩

theorem witness_windows_and_pulses_measure_the_wind_wind_window_complete_1_unset :
    ∃ (s : State), s.active = true ∧ s.wind.window.isSome = true ∧ s.orders.cur.map (·.task) ≠ some .windRetract
      ∧ 0 < s.allowance ∧ s.orders.idleReached = false ∧ s.stepOk = true :=
  ⟨awning.setCal { record with wR := 0 }, by decide⟩

theorem witness_windows_and_pulses_measure_the_wind_anem_pulse_2 :
    ∃ (s : State), s.windSource = true ∧ s.active = true :=
  ⟨(awning.setCal { record with windSource := true }).onWind fun x => { x with pulses := 254 }, by decide⟩

theorem witness_windows_and_pulses_measure_the_wind_anem_pulse_3 :
    ∃ (s : State), s.windSource = true ∧ s.node.mode = .watch :=
  ⟨inMode .watch (awning.setCal { record with windSource := true }), by decide⟩

theorem witness_windows_and_pulses_measure_the_wind_anem_pulse_4 :
    ∃ (s : State), s.windSource = false :=
  ⟨awning, by decide⟩

theorem witness_windows_and_pulses_measure_the_wind_anem_pulse_4_jack :
    ∃ (s : State), s.windSource = false :=
  ⟨jack.setCal { record with windSource := true }, by decide⟩

theorem witness_windows_and_pulses_measure_the_wind_hold_off_end_5 :
    ∃ (s : State), s.node.mode = .watch :=
  ⟨inMode .watch (awning.onWind fun x => { x with holdOff := some 600000 }), by decide⟩

theorem witness_windows_and_pulses_measure_the_wind_hold_off_end_6 :
    ∃ (s : State), s.active = true :=
  ⟨awning.onWind fun x => { x with holdOff := some 600000 }, by decide⟩

theorem witness_high_wind_retracts_the_awning_wind_window_complete_1_third :
    ∃ (s : State), s.node.mode = .run ∧ s.node.role = .awning ∧ s.bus.err ≠ .off ∧ s.wind.window.isSome = true
      ∧ s.rests = true ∧ 0 < s.allowance ∧ s.chA.cls ≠ .stowed ∧ s.wind.spent = false ∧ s.stop.sensedLow = false
      ∧ s.cal.wR ≠ 0 ∧ 2 ≤ s.wind.highRun ∧ s.wind.highRun ≤ 3 ∧ s.cal.wR ≤ s.windNow ∧ s.windNow ≠ 255 :=
  ⟨(awning.setCal { record with windSource := true }).onWind fun x => { x with pulses := 30, highRun := 2 },
    by decide⟩

theorem witness_high_wind_retracts_the_awning_wind_window_complete_1_later :
    ∃ (s : State), s.node.mode = .run ∧ s.node.role = .awning ∧ s.bus.err ≠ .off ∧ s.wind.window.isSome = true
      ∧ s.rests = true ∧ 0 < s.allowance ∧ s.chA.cls ≠ .stowed ∧ s.wind.spent = false ∧ s.stop.sensedLow = false
      ∧ s.cal.wR ≠ 0 ∧ 2 ≤ s.wind.highRun ∧ s.wind.highRun ≤ 3 ∧ s.cal.wR ≤ s.windNow ∧ s.windNow ≠ 255
      ∧ s.wind.highRun ≠ 2 :=
  ⟨(awning.setCal { record with windSource := true }).onWind fun x => { x with
      pulses := 31, highRun := 3, runWind := 30 }, by decide⟩

theorem witness_protect_request_is_decided_protect_request_1_asserted :
    ∃ (source : Nat) (r : ProtectReq) (p : Protect) (s : State),
      s.delivers .protectRequest source = true ∧ s.active = true ∧ r.target.toNat = s.node.station
      ∧ decodeProtect s.isSlide s.road.inhibitB r = some p
      ∧ (s.road.park ≠ some false ∨ s.road.lock = false
          ∨ (inhibitRank s.road.inhibitA ≤ inhibitRank p.inhibitA
              ∧ inhibitRank s.road.inhibitB ≤ inhibitRank p.inhibitB ∧ p.lock ≠ .clear)) :=
  ⟨41, { target := 16, inhibitA := 0, inhibitB := 0, lock := 2 },
    { inhibitA := .none, inhibitB := .none, lock := .clear },
    awning.onRoad fun r => { r with inhibitA := .both, lock := true }, by decide⟩

theorem witness_protect_request_is_decided_protect_request_1_raised :
    ∃ (source : Nat) (r : ProtectReq) (p : Protect) (s : State),
      s.delivers .protectRequest source = true ∧ s.active = true ∧ r.target.toNat = s.node.station
      ∧ decodeProtect s.isSlide s.road.inhibitB r = some p
      ∧ (s.road.park ≠ some false ∨ s.road.lock = false
          ∨ (inhibitRank s.road.inhibitA ≤ inhibitRank p.inhibitA
              ∧ inhibitRank s.road.inhibitB ≤ inhibitRank p.inhibitB ∧ p.lock ≠ .clear)) :=
  ⟨41, { target := 16, inhibitA := 1, inhibitB := 0, lock := 1 },
    { inhibitA := .extend, inhibitB := .none, lock := .set },
    awning.onRoad fun r => { r with park := some false, inhibitA := .extend, lock := true }, by decide⟩

theorem witness_protect_request_is_decided_protect_request_1_unlocked :
    ∃ (source : Nat) (r : ProtectReq) (p : Protect) (s : State),
      s.delivers .protectRequest source = true ∧ s.active = true ∧ r.target.toNat = s.node.station
      ∧ decodeProtect s.isSlide s.road.inhibitB r = some p
      ∧ (s.road.park ≠ some false ∨ s.road.lock = false
          ∨ (inhibitRank s.road.inhibitA ≤ inhibitRank p.inhibitA
              ∧ inhibitRank s.road.inhibitB ≤ inhibitRank p.inhibitB ∧ p.lock ≠ .clear)) :=
  ⟨41, { target := 16, inhibitA := 0, inhibitB := 0, lock := 0 },
    { inhibitA := .none, inhibitB := .none, lock := .keep },
    awning.onRoad fun r => { r with park := some false, inhibitA := .both }, by decide⟩

theorem witness_protect_request_is_decided_protect_request_2_lowered :
    ∃ (source : Nat) (r : ProtectReq) (p : Protect) (s : State),
      s.delivers .protectRequest source = true ∧ s.active = true ∧ r.target.toNat = s.node.station
      ∧ decodeProtect s.isSlide s.road.inhibitB r = some p ∧ s.road.park = some false ∧ s.road.lock = true
      ∧ (inhibitRank p.inhibitA < inhibitRank s.road.inhibitA ∨ inhibitRank p.inhibitB < inhibitRank s.road.inhibitB
          ∨ p.lock = .clear) ∧ s.bus.notices.length < 8 :=
  ⟨41, { target := 16, inhibitA := 1, inhibitB := 0, lock := 0 },
    { inhibitA := .extend, inhibitB := .none, lock := .keep },
    awning.onRoad fun r => { r with park := some false, inhibitA := .both, lock := true }, by decide⟩

theorem witness_protect_request_is_decided_protect_request_2_lock :
    ∃ (source : Nat) (r : ProtectReq) (p : Protect) (s : State),
      s.delivers .protectRequest source = true ∧ s.active = true ∧ r.target.toNat = s.node.station
      ∧ decodeProtect s.isSlide s.road.inhibitB r = some p ∧ s.road.park = some false ∧ s.road.lock = true
      ∧ (inhibitRank p.inhibitA < inhibitRank s.road.inhibitA ∨ inhibitRank p.inhibitB < inhibitRank s.road.inhibitB
          ∨ p.lock = .clear) ∧ s.bus.notices.length < 8 :=
  ⟨41, { target := 16, inhibitA := 2, inhibitB := 0, lock := 2 },
    { inhibitA := .both, inhibitB := .none, lock := .clear },
    awning.onRoad fun r => { r with park := some false, inhibitA := .both, lock := true }, by decide⟩

theorem witness_protect_request_is_decided_protect_request_2_b :
    ∃ (source : Nat) (r : ProtectReq) (p : Protect) (s : State),
      s.delivers .protectRequest source = true ∧ s.active = true ∧ r.target.toNat = s.node.station
      ∧ decodeProtect s.isSlide s.road.inhibitB r = some p ∧ s.road.park = some false ∧ s.road.lock = true
      ∧ (inhibitRank p.inhibitA < inhibitRank s.road.inhibitA ∨ inhibitRank p.inhibitB < inhibitRank s.road.inhibitB
          ∨ p.lock = .clear) ∧ s.bus.notices.length < 8 :=
  ⟨41, { target := 8, inhibitA := 0, inhibitB := 1, lock := 0 },
    { inhibitA := .none, inhibitB := .extend, lock := .keep },
    slide.onRoad fun r => { r with park := some false, inhibitB := .both, lock := true }, by decide⟩

theorem witness_park_changes_stop_extensions_and_stows_road_release_1 :
    ∃ (s : State), s.active = true ∧ s.road.park = some true ∧ s.extending = true :=
  ⟨moving .extend .extend .extend, by decide⟩

theorem witness_park_changes_stop_extensions_and_stows_road_release_1_level :
    ∃ (s : State), s.active = true ∧ s.road.park = some true :=
  ⟨levelling .lifting (some .lift) (jackDrives .level .extend), by decide⟩

theorem witness_park_changes_stop_extensions_and_stows_park_assert_2 :
    ∃ (s : State), s.active = true ∧ s.noPlan = true ∧ s.road.park = some false
      ∧ s.orders.cur.map (·.task) = some .roadStow :=
  ⟨((withOrder .roadStow .auto none awning).onChA (drives .retract .auto 60)).onRoad fun r =>
      { r with park := some false, alarm := true, stow := .running }, by decide⟩

theorem witness_park_changes_stop_extensions_and_stows_park_assert_3 :
    ∃ (s : State), s.active = true ∧ s.noPlan = true ∧ s.road.park = some false ∧ s.rests = true :=
  ⟨awning.onRoad fun r => { r with park := some false, alarm := true }, by decide⟩

theorem witness_park_changes_stop_extensions_and_stows_road_release_4_slide :
    ∃ (s : State), s.node.mode = .run ∧ s.bus.err ≠ .off ∧ s.road.park = some true
      ∧ s.orders.cur.map (·.task) ≠ some .roadStow ∧ (s.isSlide = true ∨ s.cal.autoStow = false) :=
  ⟨slide, by decide⟩

theorem witness_park_changes_stop_extensions_and_stows_road_release_4_clear :
    ∃ (s : State), s.node.mode = .run ∧ s.bus.err ≠ .off ∧ s.road.park = some true
      ∧ s.orders.cur.map (·.task) ≠ some .roadStow ∧ (s.isSlide = true ∨ s.cal.autoStow = false) :=
  ⟨awning, by decide⟩

theorem witness_park_changes_stop_extensions_and_stows_road_release_5_stowed :
    ∃ (s : State), s.node.mode = .run ∧ s.bus.err ≠ .off ∧ s.road.park = some true ∧ s.isSlide = false
      ∧ s.cal.autoStow = true
      ∧ (s.chA.cls = .stowed
          ∨ (s.isJack = false ∧ s.orders.cur.map (·.task) = some .windRetract ∧ s.chA.dir = some .retract
              ∧ s.orders.cursor = none)) :=
  ⟨(autoStow jack).onChA fun c => { c with cls := .stowed, count := 0 }, by decide⟩

theorem witness_park_changes_stop_extensions_and_stows_road_release_5_wind :
    ∃ (s : State), s.node.mode = .run ∧ s.bus.err ≠ .off ∧ s.road.park = some true ∧ s.isSlide = false
      ∧ s.cal.autoStow = true
      ∧ (s.chA.cls = .stowed
          ∨ (s.isJack = false ∧ s.orders.cur.map (·.task) = some .windRetract ∧ s.chA.dir = some .retract
              ∧ s.orders.cursor = none)) :=
  ⟨(withOrder .windRetract .auto none (autoStow awning)).onChA (drives .retract .auto 60), by decide⟩

theorem witness_park_changes_stop_extensions_and_stows_road_release_6_awning :
    ∃ (s : State), s.node.mode = .run ∧ s.bus.err ≠ .off ∧ s.road.park = some true ∧ s.isSlide = false
      ∧ s.cal.autoStow = true ∧ s.chA.cls ≠ .stowed ∧ s.rests = true ∧ 0 < s.allowance
      ∧ (s.isJack = false ∨ s.stowWaitMet = true) :=
  ⟨autoStow awning, by decide⟩

theorem witness_park_changes_stop_extensions_and_stows_road_release_6_jack :
    ∃ (s : State), s.node.mode = .run ∧ s.bus.err ≠ .off ∧ s.road.park = some true ∧ s.isSlide = false
      ∧ s.cal.autoStow = true ∧ s.chA.cls ≠ .stowed ∧ s.rests = true ∧ 0 < s.allowance
      ∧ (s.isJack = false ∨ s.stowWaitMet = true) :=
  ⟨(autoStow jack).onPeers fun _ => [entry 8 (slideBody .stowed), entry 16 (awningBody .stowed)], by decide⟩

theorem witness_park_changes_stop_extensions_and_stows_road_release_7_missing :
    ∃ (s : State), s.node.mode = .run ∧ s.bus.err ≠ .off ∧ s.road.park = some true ∧ s.isJack = true
      ∧ s.cal.autoStow = true ∧ s.chA.cls ≠ .stowed ∧ s.rests = true ∧ s.stowWaitMet = false :=
  ⟨autoStow jack, by decide⟩

theorem witness_park_changes_stop_extensions_and_stows_road_release_7_out :
    ∃ (s : State), s.node.mode = .run ∧ s.bus.err ≠ .off ∧ s.road.park = some true ∧ s.isJack = true
      ∧ s.cal.autoStow = true ∧ s.chA.cls ≠ .stowed ∧ s.rests = true ∧ s.stowWaitMet = false :=
  ⟨(autoStow jack).onPeers fun _ => [entry 8 (slideBody .stowed), entry 16 (awningBody .partway)], by decide⟩

theorem witness_park_changes_stop_extensions_and_stows_posture_beacon_8_raised :
    ∃ (source : Nat) (d : Data8) (b : Beacon) (s : State), s.delivers .postureBeacon source = true
      ∧ s.node.mode = .run ∧ source ≠ s.node.station ∧ decodeBeacon source d = some b ∧ s.isJack = true
      ∧ s.road.stow = .heldBack ∧ s.rests = true ∧ s.level.phase = .none ∧ 0 < s.allowance
      ∧ (applyBeacon source b s).stowWaitMet = true :=
  ⟨16, encodeBeacon (told (awningBody .stowed)), told (awningBody .stowed),
    ((autoStow jack).onPeers fun _ => [entry 8 (slideBody .stowed), entry 16 (awningBody .partway)]).onRoad fun r =>
      { r with park := some false, alarm := true, stow := .heldBack }, by decide⟩

theorem witness_park_changes_stop_extensions_and_stows_posture_beacon_8_stowed :
    ∃ (source : Nat) (d : Data8) (b : Beacon) (s : State), s.delivers .postureBeacon source = true
      ∧ s.node.mode = .run ∧ source ≠ s.node.station ∧ decodeBeacon source d = some b ∧ s.isJack = true
      ∧ s.road.stow = .heldBack ∧ s.rests = true ∧ s.level.phase = .none ∧ 0 < s.allowance
      ∧ (applyBeacon source b s).stowWaitMet = true :=
  ⟨16, encodeBeacon (told (awningBody .stowed)), told (awningBody .stowed),
    (((autoStow jack).onPeers fun _ => [entry 8 (slideBody .stowed)]).onRoad fun r =>
        { r with park := some false, stow := .heldBack }).onChA fun c => { c with cls := .stowed, count := 0 },
    by decide⟩

theorem witness_park_changes_stop_extensions_and_stows_halt_9 :
    ∃ (r : MotionReq) (s : State), s.takes r = true ∧ s.orders.cur.map (·.task) = some .roadStow :=
  ⟨press 255 0 0, stowing awning, by decide⟩

theorem witness_park_changes_stop_extensions_and_stows_home_switch_close_10 :
    ∃ (s : State), s.active = true ∧ s.noPlan = true ∧ s.isSlide = false
      ∧ (s.isJack = true ∨ s.chA.outClosed = false) ∧ s.orders.cur.map (·.task) = some .roadStow
      ∧ s.chA.carries = true ∧ s.chA.dir = some .retract :=
  ⟨stowing awning, by decide⟩

theorem witness_park_changes_stop_extensions_and_stows_home_switch_close_10_jack :
    ∃ (s : State), s.active = true ∧ s.noPlan = true ∧ s.isSlide = false
      ∧ (s.isJack = true ∨ s.chA.outClosed = false) ∧ s.orders.cur.map (·.task) = some .roadStow
      ∧ s.chA.carries = true ∧ s.chA.dir = some .retract :=
  ⟨(stowing jack).onChA fun c => { c with outClosed := true }, by decide⟩

theorem witness_park_changes_stop_extensions_and_stows_restart_request_11 :
    ∃ (source : Nat) (target : Byte) (inp : Inputs) (s : State),
      s.delivers .restartRequest source = true ∧ s.active = true ∧ byteNames target s.node.station = true
      ∧ s.orders.cur.map (·.task) = some .roadStow ∧ s.road.park = some false ∧ inp.parkAsserted = false :=
  ⟨41, 16, { sample with parkAsserted := false }, stowing awning, by decide⟩

theorem witness_park_changes_stop_extensions_and_stows_listen_window_end_12_pending :
    ∃ (s : State), s.node.mode = .listen ∧ s.node.listen.isSome = true ∧ s.bus.err ≠ .off ∧ s.cal.vFloor ≤ s.inp.vs
      ∧ s.node.role = .awning ∧ s.cal.autoStow = true ∧ s.road.park = some false
      ∧ (s.road.stowDue = true ∨ s.road.stow = .pending) ∧ s.chA.cls ≠ .stowed ∧ s.rests = true ∧ 0 < s.allowance
      ∧ s.wind.highRun < 3 :=
  ⟨((inMode .listen (autoStow awning)).onNode fun n => { n with listen := some 600 }).onRoad fun r =>
      { r with park := some false, alarm := true, stow := .pending }, by decide⟩

theorem witness_park_changes_stop_extensions_and_stows_listen_window_end_12_due :
    ∃ (s : State), s.node.mode = .listen ∧ s.node.listen.isSome = true ∧ s.bus.err ≠ .off ∧ s.cal.vFloor ≤ s.inp.vs
      ∧ s.node.role = .awning ∧ s.cal.autoStow = true ∧ s.road.park = some false
      ∧ (s.road.stowDue = true ∨ s.road.stow = .pending) ∧ s.chA.cls ≠ .stowed ∧ s.rests = true ∧ 0 < s.allowance
      ∧ s.wind.highRun < 3 :=
  ⟨((inMode .listen (autoStow awning)).onNode fun n => { n with listen := some 600 }).onRoad fun r =>
      { r with park := some false, alarm := true, stowDue := true }, by decide⟩

theorem witness_park_changes_stop_extensions_and_stows_listen_window_end_12_floor :
    ∃ (s : State), s.node.mode = .listen ∧ s.node.listen.isSome = true ∧ s.bus.err ≠ .off ∧ s.cal.vFloor ≤ s.inp.vs
      ∧ s.node.role = .awning ∧ s.cal.autoStow = true ∧ s.road.park = some false
      ∧ (s.road.stowDue = true ∨ s.road.stow = .pending) ∧ s.chA.cls ≠ .stowed ∧ s.rests = true ∧ 0 < s.allowance
      ∧ s.wind.highRun < 3 ∧ s.inp.vs = s.cal.vFloor :=
  ⟨(((inMode .listen (autoStow awning)).onNode fun n => { n with listen := some 600 }).onRoad fun r =>
        { r with park := some false, alarm := true, stowDue := true }).onInp fun x => { x with vs := 10500 },
    by decide⟩

theorem witness_watch_polls_and_wakes_wake_stop_line_1 :
    ∃ (inp : Inputs) (s : State), s.node.mode = .watch ∧ s.ordersOk = true ∧ overheats inp = false :=
  ⟨sample, inMode .watch awning, by decide⟩

theorem witness_watch_polls_and_wakes_wake_bus_2 :
    ∃ (inp : Inputs) (s : State), s.node.mode = .watch ∧ s.ordersOk = true ∧ s.bus.standby = true
      ∧ overheats inp = false :=
  ⟨sample, (inMode .watch awning).onBus fun b => { b with standby := true }, by decide⟩

theorem witness_watch_polls_and_wakes_poll_3_input :
    ∃ (inp : Inputs) (cause : WakeCause) (s : State), s.node.mode = .watch ∧ s.ordersOk = true
      ∧ s.watch.poll.isSome = true ∧ overheats inp = false
      ∧ (if s.watch.lowPause then s.cal.vDroop else s.cal.vFloor) ≤ inp.vs
      ∧ pollCause (s.watch.snap.filterMap (s.entryWakes inp)) = some cause :=
  ⟨{ sample with homeA := true }, .input,
    (inMode .watch awning).onWatch fun x => { x with
      poll := some 500, snap := [{ kind := .switch (.home .a) false, polled := true }] }, by decide⟩

theorem witness_watch_polls_and_wakes_poll_3_tilt :
    ∃ (inp : Inputs) (cause : WakeCause) (s : State), s.node.mode = .watch ∧ s.ordersOk = true
      ∧ s.watch.poll.isSome = true ∧ overheats inp = false
      ∧ (if s.watch.lowPause then s.cal.vDroop else s.cal.vFloor) ≤ inp.vs
      ∧ pollCause (s.watch.snap.filterMap (s.entryWakes inp)) = some cause :=
  ⟨{ sample with tilt := some (51, 0) }, .tilt,
    (inMode .watch jack).onWatch fun x => { x with
      poll := some 500, snap := [{ kind := .tilt 0 0, polled := true }] }, by decide⟩

theorem witness_watch_polls_and_wakes_poll_3_wind :
    ∃ (inp : Inputs) (cause : WakeCause) (s : State), s.node.mode = .watch ∧ s.ordersOk = true
      ∧ s.watch.poll.isSome = true ∧ overheats inp = false
      ∧ (if s.watch.lowPause then s.cal.vDroop else s.cal.vFloor) ≤ inp.vs
      ∧ pollCause (s.watch.snap.filterMap (s.entryWakes inp)) = some cause :=
  ⟨sample, .wind,
    (inMode .watch awning).onWatch fun x => { x with
      poll := some 500, tally := 15, snap := [{ kind := .wind 30, polled := true }] }, by decide⟩

theorem witness_watch_polls_and_wakes_poll_4_floor :
    ∃ (inp : Inputs) (s : State), s.node.mode = .watch ∧ s.watch.poll.isSome = true
      ∧ inp.vs < (if s.watch.lowPause then s.cal.vDroop else s.cal.vFloor) :=
  ⟨{ sample with vs := 10499 }, (inMode .watch awning).onWatch fun x => { x with poll := some 500 }, by decide⟩

theorem witness_watch_polls_and_wakes_poll_4_paused :
    ∃ (inp : Inputs) (s : State), s.node.mode = .watch ∧ s.watch.poll.isSome = true
      ∧ inp.vs < (if s.watch.lowPause then s.cal.vDroop else s.cal.vFloor) :=
  ⟨{ sample with vs := 11399 },
    (inMode .watch awning).onWatch fun x => { x with poll := some 500, lowPause := true }, by decide⟩

theorem witness_watch_polls_and_wakes_poll_5_first :
    ∃ (inp : Inputs) (s : State), s.node.mode = .watch ∧ s.watch.poll.isSome = true
      ∧ (if s.watch.lowPause then s.cal.vDroop else s.cal.vFloor) ≤ inp.vs
      ∧ pollCause (s.watch.snap.filterMap (s.entryWakes inp)) = none :=
  ⟨{ sample with vs := 10500 },
    (inMode .watch awning).onWatch fun x => { x with
      poll := some 500, snap := [{ kind := .switch (.home .a) false, polled := true }] }, by decide⟩

theorem witness_watch_polls_and_wakes_poll_5_next :
    ∃ (inp : Inputs) (s : State), s.node.mode = .watch ∧ s.watch.poll.isSome = true
      ∧ (if s.watch.lowPause then s.cal.vDroop else s.cal.vFloor) ≤ inp.vs
      ∧ pollCause (s.watch.snap.filterMap (s.entryWakes inp)) = none :=
  ⟨{ sample with vs := 11400, homeA := true },
    (inMode .watch awning).onWatch fun x => { x with
      poll := some 500, lowPause := true, firstPoll := true,
      snap := [{ kind := .switch (.home .a) true, polled := true }] }, by decide⟩

theorem witness_watch_polls_and_wakes_poll_5_steady :
    ∃ (inp : Inputs) (s : State), s.node.mode = .watch ∧ s.watch.poll.isSome = true
      ∧ (if s.watch.lowPause then s.cal.vDroop else s.cal.vFloor) ≤ inp.vs
      ∧ pollCause (s.watch.snap.filterMap (s.entryWakes inp)) = none :=
  ⟨{ sample with tilt := some (50, -50) },
    (inMode .watch jack).onWatch fun x => { x with
      poll := some 500, snap := [{ kind := .tilt 0 0, polled := true }] }, by decide⟩

theorem witness_watch_polls_and_wakes_poll_5_calm :
    ∃ (inp : Inputs) (s : State), s.node.mode = .watch ∧ s.watch.poll.isSome = true
      ∧ (if s.watch.lowPause then s.cal.vDroop else s.cal.vFloor) ≤ inp.vs
      ∧ pollCause (s.watch.snap.filterMap (s.entryWakes inp)) = none :=
  ⟨sample,
    (inMode .watch awning).onWatch fun x => { x with
      poll := some 500, tally := 14, snap := [{ kind := .wind 30, polled := true }] }, by decide⟩

end Sys2Proof.Tests
end

section
/-! SUPPORT. The calibration store over a command: what a stopped, a started and an ended programming leave of it, and all
that a command can do to it (R5 to R7, R9). -/

namespace Sys2Proof.Machine

/-! ### Stopped programming (R7) -/

/-- One byte of a stopped programming: found written where its free value says so. -/
def Store.putFree (free a : Nat) (bytes : List Byte) (st : Store) (i : Nat) : Store :=
  if Config.freeProgrammed (free + i) then st.program (a + i) [bytes.getD i unwrittenByte] else st

/-- What a reset makes of a store with a programming in progress. -/
theorem stopProgramming_cells {s : State} {a : Nat} {bytes : List Byte} (h : s.store.prog = some (a, bytes)) :
    (stopProgramming s).store.cells
      = (([0, 1, 2, 3].filter (· < bytes.length)).foldl (Store.putFree s.free a bytes) s.store).cells := by
  unfold stopProgramming
  split
  · simp_all
  · rename_i a' bytes' h'
    obtain ⟨rfl, rfl⟩ : a' = a ∧ bytes' = bytes := by simpa [h'] using h
    rfl

/-- A byte that may be found written holds its new value then, and every other byte is as it was. -/
theorem Store.putFree_find (free a i : Nat) (bytes : List Byte) (st : Store) (x : Nat) :
    cellsFind (Store.putFree free a bytes st i).cells x = cellsFind st.cells x
      ∨ x = a + i ∧ cellsFind (Store.putFree free a bytes st i).cells x = some (bytes.getD i unwrittenByte) := by
  unfold Store.putFree
  split
  · by_cases hx : x = a + i
    · subst hx
      by_cases hb : a + i < 256
      · exact .inr ⟨rfl, by simpa using Store.program_inside st (a + i) 0 [bytes.getD i unwrittenByte] (by simp) hb⟩
      · exact .inl (by simp [Store.program, hb])
    · exact .inl (Store.program_outside _ _ _ _ (by simp only [List.length_singleton]; omega))
  · exact .inl rfl

/-- The same of a run of bytes. -/
theorem Store.foldl_putFree_find (free a : Nat) (bytes : List Byte) (x : Nat) (l : List Nat) (st : Store) :
    cellsFind (l.foldl (Store.putFree free a bytes) st).cells x = cellsFind st.cells x
      ∨ ∃ i ∈ l, x = a + i ∧ cellsFind (l.foldl (Store.putFree free a bytes) st).cells x
          = some (bytes.getD i unwrittenByte) := by
  induction l generalizing st with
  | nil => exact .inl rfl
  | cons i rest ih =>
    rw [List.foldl_cons]
    rcases ih (Store.putFree free a bytes st i) with same | ⟨j, hj, hx, hv⟩
    · rw [same]
      rcases Store.putFree_find free a i bytes st x with h | ⟨hx, hv⟩
      · exact .inl h
      · exact .inr ⟨i, List.mem_cons_self, hx, hv⟩
    · exact .inr ⟨j, List.mem_cons_of_mem i hj, hx, hv⟩

/-- The bytes being programmed are unwritten, one by one. -/
theorem Store.progFree_iff {st : Store} {a : Nat} {bytes : List Byte} (h : st.prog = some (a, bytes)) :
    st.progFree = true ↔ a + bytes.length ≤ 256 ∧ ∀ i < bytes.length, cellsFind st.cells (a + i) = none := by
  simp [Store.progFree, h, Store.written]

/-- A reset leaves each byte of the store as it was, or, of those being programmed, written with its new value (R7). -/
theorem stopProgramming_find {s : State} {a : Nat} {bytes : List Byte} (h : s.store.prog = some (a, bytes))
    (hf : s.store.progFree = true) (x : Nat) :
    cellsFind (stopProgramming s).store.cells x = cellsFind s.store.cells x
      ∨ cellsFind s.store.cells x = none
        ∧ ∃ i < bytes.length, i < 4 ∧ x = a + i ∧ cellsFind (stopProgramming s).store.cells x = bytes[i]? := by
  rw [stopProgramming_cells h]
  rcases Store.foldl_putFree_find s.free a bytes x ([0, 1, 2, 3].filter (· < bytes.length)) s.store with
    same | ⟨i, hi, rfl, hv⟩
  · exact .inl same
  · obtain ⟨h4, hl⟩ : i < 4 ∧ i < bytes.length := by
      simp only [List.mem_filter, decide_eq_true_eq] at hi
      refine ⟨?_, hi.2⟩
      have := hi.1
      simp only [List.mem_cons, List.not_mem_nil, or_false] at this
      omega
    refine .inr ⟨((Store.progFree_iff h).1 hf).2 i hl, i, hl, h4, rfl, ?_⟩
    rw [hv, List.getD_eq_getElem?_getD, List.getElem?_eq_getElem hl, Option.getD_some]

/-! ### The form of the store and its growth (R5) -/

/-- The store keeps its form, its written bytes and its lock. -/
structure Store.Grows (st st' : Store) : Prop where
  wf : st'.wf = true
  free : st'.progFree = true
  bytes : ∀ a v, cellsFind st.cells a = some v → cellsFind st'.cells a = some v
  lock : st.locked = true → st'.locked = true

/-- A store in its form grows into one with the same cells whose programming meets unwritten bytes only. -/
theorem Store.Grows.of_cells {st st' : Store} (hw : st.wf = true) (hc : st'.cells = st.cells)
    (hf : st'.progFree = true) (hl : st.locked = true → st'.locked = true) : st.Grows st' :=
  { wf := by rw [Store.wf, hc]; exact hw
    free := hf
    bytes := fun a v h => by rw [hc]; exact h
    lock := hl }

theorem Store.Grows.trans {st st' st'' : Store} (h : st.Grows st') (h' : st'.Grows st'') : st.Grows st'' :=
  { wf := h'.wf, free := h'.free, bytes := fun a v ha => h'.bytes a v (h.bytes a v ha),
    lock := fun hl => h'.lock (h.lock hl) }

/-- With no programming in progress none meets a written byte. -/
theorem Store.progFree_none {st : Store} (h : st.prog = none) : st.progFree = true := by
  simp [Store.progFree, h]

/-- A stopped programming lets the store grow. -/
theorem stopProgramming_grows {s : State} (hw : s.store.wf = true) (hf : s.store.progFree = true) :
    s.store.Grows (stopProgramming s).store :=
  { wf := stopProgramming_wf hw
    free := Store.progFree_none (stopProgramming_store s).1
    bytes := fun x v hx => by
      cases h : s.store.prog with
      | none => simpa [stopProgramming, h] using hx
      | some p =>
        rcases stopProgramming_find (bytes := p.2) h hf x with same | ⟨unwritten, -⟩
        · rw [same, hx]
        · rw [unwritten] at hx; cases hx
    lock := fun h => by rw [(stopProgramming_store s).2.2, h] }

/-- Ended programming lets the store grow (R6). -/
theorem Store.program_grows {st : Store} {a : Nat} {bytes : List Byte} (hw : st.wf = true)
    (hp : st.prog = some (a, bytes)) (hf : st.progFree = true) :
    st.Grows { st.program a bytes with prog := none, held := [] } :=
  { wf := Store.program_wf a bytes hw
    free := rfl
    bytes := fun x v hx => by
      obtain ⟨-, unwritten⟩ := (Store.progFree_iff hp).1 hf
      rw [← hx]
      refine Store.program_outside st a x bytes (Decidable.byContradiction fun inside => ?_)
      have := unwritten (x - a) (by omega)
      rw [show a + (x - a) = x by omega, hx] at this
      cases this
    lock := fun h => by simpa using h }

/-! ### Calibration frames (R6, R9) -/

/-- The lowest written byte of a run is written, and there is none below it. -/
theorem Store.firstWritten_some {st : Store} {a n : Nat} (h : st.firstWritten a = some n) :
    st.written n = true ∧ a ≤ n ∧ n ≤ a + 3 ∧ ∀ m, a ≤ m → m < n → st.written m = false := by
  have run : (List.range' a 4).find? st.written = some n := h
  obtain ⟨written, mem, below⟩ := List.find?_range'_eq_some.1 run
  obtain ⟨lo, hi⟩ := List.mem_range'_1.1 mem
  exact ⟨written, lo, by omega, fun m h1 h2 => by simpa using below m h1 h2⟩

/-- A run without a written byte. -/
theorem Store.firstWritten_none {st : Store} {a : Nat} (h : st.firstWritten a = none) :
    ∀ i < 4, cellsFind st.cells (a + i) = none := by
  intro i hi
  have hn := List.find?_eq_none.1 h (a + i) (by
    simp only [List.mem_cons, List.not_mem_nil, or_false]; omega)
  simpa [Store.written] using hn

/-- A write leaves the store, or begins the programming of four unwritten bytes (R6). -/
theorem takeWrite_store (source : Nat) (w : CalWrite) (cal : Bool) (s : State) :
    (takeWrite source w cal s).store = s.store
      ∨ w.offset.toNat ≤ 252 ∧ s.store.firstWritten w.offset.toNat = none
        ∧ (takeWrite source w cal s).store = { s.store with prog := some (w.offset.toNat, calBytes w) } := by
  unfold takeWrite
  split
  · exact .inl rfl
  · split
    · unfold setupWrite
      dsimp only
      split
      · exact .inl (by simp)
      · split
        · exact .inl (by simp)
        · exact .inr ⟨by omega, ‹_›, rfl⟩
    · split <;> exact .inl (by simp)

/-- A write lets the store grow, and leaves the lock. -/
theorem takeWrite_grows (source : Nat) (w : CalWrite) (cal : Bool) {s : State} (hw : s.store.wf = true)
    (hf : s.store.progFree = true) :
    s.store.Grows (takeWrite source w cal s).store ∧ (takeWrite source w cal s).store.locked = s.store.locked := by
  rcases takeWrite_store source w cal s with same | ⟨hoff, unwritten, started⟩
  · rw [same]; exact ⟨.of_cells hw rfl hf id, rfl⟩
  · rw [started]
    refine ⟨.of_cells hw rfl ?_ id, rfl⟩
    refine (Store.progFree_iff (a := w.offset.toNat) (bytes := calBytes w) rfl).2
      ⟨?_, Store.firstWritten_none unwritten⟩
    simp only [calBytes, List.length_cons, List.length_nil]; omega

/-- A lock leaves the store, or locks it and nothing else (R9). -/
theorem takeLock_store (source : Nat) (target : Byte) (inp : Inputs) (s : State) :
    (takeLock source target inp s).store = s.store
      ∨ (takeLock source target inp s).store = { s.store with locked := true } := by
  unfold takeLock
  split
  · exact .inl rfl
  · split
    · unfold setupLock
      split
      · exact .inr (by simp)
      · exact .inl (by simp)
    · split <;> exact .inl (by simp)

theorem takeLock_grows (source : Nat) (target : Byte) (inp : Inputs) {s : State} (hw : s.store.wf = true)
    (hf : s.store.progFree = true) : s.store.Grows (takeLock source target inp s).store := by
  rcases takeLock_store source target inp s with same | locked
  · rw [same]; exact .of_cells hw rfl hf id
  · rw [locked]; exact .of_cells hw rfl hf (fun _ => rfl)

/-! ### Frames held back (R7) -/

/-- The frame is a CALIBRATION LOCK. -/
def IsLockFrame (i : Instr) : Prop := ∃ source target inp, i = .calibrationLock source target inp

/-- A frame held back lets the store grow, and only a CALIBRATION LOCK locks it. -/
theorem takeHeldFrame_grows (f : Instr) {s : State} (hw : s.store.wf = true) (hf : s.store.progFree = true) :
    s.store.Grows (takeHeldFrame f s).store
      ∧ ((takeHeldFrame f s).store.locked = s.store.locked ∨ IsLockFrame f) := by
  unfold takeHeldFrame
  split
  · exact ⟨.of_cells hw (by simp) (by simpa using hf) (by simp), .inl (by simp)⟩
  · rename_i source w cal
    obtain ⟨grows, lock⟩ := takeWrite_grows source w cal hw hf
    exact ⟨grows, .inl lock⟩
  · exact ⟨takeLock_grows _ _ _ hw hf, .inr ⟨_, _, _, rfl⟩⟩
  · exact ⟨.of_cells hw (by simp) (by simpa using hf) (by simp), .inl (by simp)⟩
  · exact ⟨.of_cells hw rfl hf id, .inl rfl⟩

/-- So do all the frames held back, in their order. -/
theorem takeHeld_grows (l : List Instr) {s : State} (hw : s.store.wf = true) (hf : s.store.progFree = true) :
    s.store.Grows (takeHeld l s).store
      ∧ ((takeHeld l s).store.locked = s.store.locked ∨ ∃ f ∈ l, IsLockFrame f) := by
  induction l generalizing s with
  | nil => exact ⟨.of_cells hw rfl hf id, .inl rfl⟩
  | cons f rest ih =>
    unfold takeHeld
    split
    · exact ⟨.of_cells hw rfl hf id, .inl rfl⟩
    · split
      · exact ⟨.of_cells hw rfl hf id, .inl rfl⟩
      · obtain ⟨first, lock⟩ := takeHeldFrame_grows f hw hf
        obtain ⟨rest_grows, rest_lock⟩ := ih first.wf first.free
        refine ⟨first.trans rest_grows, ?_⟩
        rcases rest_lock with same | ⟨g, hg, is⟩
        · rcases lock with kept | is
          · exact .inl (same.trans kept)
          · exact .inr ⟨f, List.mem_cons_self, is⟩
        · exact .inr ⟨g, List.mem_cons_of_mem f hg, is⟩

/-! ### Commands -/

/-- A frame whose block leaves the store alone leaves it, or is held back. -/
theorem receive_store (frame : Instr) (k : Kind) (source : Nat) {take : State → State}
    (ht : ∀ s, (take s).store = s.store) (s : State) :
    (receive frame k source take s).store = s.store
      ∨ (receive frame k source take s).store = { s.store with held := s.store.held ++ [frame] } := by
  rcases receive_cases frame k source take s with h | h | h | h | h <;> rw [h]
  · exact .inl rfl
  · exact .inl (by simp)
  · exact .inl (by simp)
  · exact .inr (by simp)
  · exact .inl (by simp [ht])

/-- The outcome's store, where there is one, is this. -/
def Result.storeIs (r : Result) (st : Store) : Prop := ∀ t, r = .next t → t.store = st

@[simp] theorem Result.storeIs_next (t : State) (st : Store) :
    Result.storeIs (.next t) st ↔ t.store = st := by
  simp [Result.storeIs]

/-- The command is no reset, no end of a programming and no frame with a row of its own. -/
def leavesStore : Instr → Bool
  | .powerOn _ | .supplyBelowRange | .nrstLow | .calibrationProgrammingDone | .calibrationWrite ..
  | .calibrationLock .. | .identityQuery .. | .restartRequest .. | .postureBeacon .. | .drawNotice .. | .stopCall ..
  | .extend _ | .retract _ | .level _ | .stow _ | .halt _ | .clear .. | .sleep _ | .runPlan _ | .protectRequest .. =>
    false
  | _ => true

/-- Timers, events, transmissions, polls and wakes have their effects outside the store. -/
theorem exec_store_event {c : Instr} (hc : leavesStore c = true) (s : State) : Result.storeIs (exec c s) s.store := by
  cases c
  any_goals contradiction
  all_goals
    simp only [exec, execNrstHigh, execIdleCurrentFail, execListenWindowEnd, execBeaconAgeStale, execBeaconAgeLost,
      execClaimLapse, execFrameNotTaken, execTransmitStart, execTransmitComplete, execArbitrationLost,
      execTransmitError, execReceiveError, execOffPeriodEnd, execBusRejoin, execBeaconDue, execDrawNoticeDue,
      execStandbyTimeout, execPressEntryLapse, execHoldExpiry, execConflictQuietEnd, execReversalDwellEnd,
      execStepTimeout, execDutyStep, execWallTimeLimit, execEncoderPulse, execCoastWindowClose, execHomeSwitchClose,
      execOutSwitchClose, execSwitchOpen, execFootSwitchClose, execFootSwitchOpen, execStall, execRetryPauseEnd,
      execOvercurrentTrip, execSettleWindowEnd, execSupplySenseReading, execLowSupplyTimeout, execTemperatureReading,
      execInclinometerReading, execContactCurrent, execFootingWaitExpiry, execMissingTimerExpiry, execSettleTimeEnd,
      execTrimDwellComplete, execRackTimerExpiry, execGraceExpiry, execAnemPulse, execWindWindowComplete,
      execHoldOffEnd, execStopLineFall, execStopLineRise, execStopPulseEnd, execRoadRelease, execParkAssert,
      execIdleTimeReached, execPoll, execWakeStopLine, execWakeBus]
  all_goals (repeat' split) <;> simp

/-- The own act of HALT, CLEAR and SLEEP decides what becomes of the store. -/
theorem ordered_store (o : Order) (r : MotionReq) {act : State → State} (ha : ∀ s, (act s).store = s.store)
    (s : State) :
    (ordered o r act s).store = s.store := by
  unfold ordered
  split
  · dsimp only
    split <;> simp [ha]
  · rfl

/-- A CLEAR leaves the store alone. -/
theorem clearAll_store (panel : Nat) (isns : ChanId → Current) (s : State) :
    (clearAll panel isns s).store = s.store := by
  have chan (acc : State × Found) (ch : ChanId) : (clearChan isns acc ch).1.store = acc.1.store := by
    unfold clearChan
    dsimp only
    (repeat' split) <;> simp
  have drive (acc : State × Found) : (clearDrive isns acc).1.store = acc.1.store := by
    unfold clearDrive
    dsimp only
    (repeat' split) <;> simp
  unfold clearAll State.chanIds
  dsimp only
  split <;> split <;> simp [drive, chan, clearListed]

/-- All that a command can do to the store. -/
theorem exec_store {c : Instr} {s t : State} (h : exec c s = .next t) :
    t.store = s.store ∨ t.store = { s.store with held := s.store.held ++ [c] } ∨ t.store = (stopProgramming s).store
      ∨ (∃ source w cal, t.store = (takeWrite source w cal (receivedWhole s)).store)
      ∨ (∃ source target inp, c = .calibrationLock source target inp
          ∧ t.store = (takeLock source target inp (receivedWhole s)).store)
      ∨ ∃ a bytes, c = .calibrationProgrammingDone ∧ s.store.prog = some (a, bytes)
          ∧ t.store = (takeHeld s.store.held
              (s.onStore fun st => { st.program a bytes with prog := none, held := [] })).store := by
  have frame {k : Kind} {source : Nat} {take : State → State} (ht : ∀ s, (take s).store = s.store)
      (hx : exec c s = .next (receive c k source take s)) :
      t.store = s.store ∨ t.store = { s.store with held := s.store.held ++ [c] } := by
    obtain rfl := Host.Outcome.next.inj (h.symm.trans hx)
    exact receive_store c k source ht s
  have own {k : Kind} {source : Nat} {take : State → State} (hx : exec c s = .next (receive c k source take s)) :
      t.store = s.store ∨ t.store = { s.store with held := s.store.held ++ [c] }
        ∨ t.store = (take (receivedWhole s)).store := by
    obtain rfl := Host.Outcome.next.inj (h.symm.trans hx)
    rcases receive_cases c k source take s with e | e | e | e | e <;> rw [e] <;> simp
  have assoc {p q r : Prop} (h : p ∨ q) : p ∨ q ∨ r := h.elim .inl fun h => .inr (.inl h)
  cases c with
  | powerOn inp =>
    obtain rfl := Host.Outcome.next.inj h
    refine .inr (.inr (.inl ?_))
    split <;> simp [holdReset]
  | supplyBelowRange | nrstLow =>
    obtain rfl := Host.Outcome.next.inj h
    exact .inr (.inr (.inl (by simp [holdReset])))
  | calibrationWrite source w cal =>
    rcases own rfl with e | e | e
    · exact .inl e
    · exact .inr (.inl e)
    · exact .inr (.inr (.inr (.inl ⟨source, w, cal, e⟩)))
  | calibrationLock source target inp =>
    rcases own rfl with e | e | e
    · exact .inl e
    · exact .inr (.inl e)
    · exact .inr (.inr (.inr (.inr (.inl ⟨source, target, inp, rfl, e⟩))))
  | calibrationProgrammingDone =>
    cases hp : s.store.prog with
    | none =>
      simp only [exec, execCalibrationProgrammingDone, hp] at h
      obtain rfl := Host.Outcome.next.inj h
      exact .inl rfl
    | some p =>
      simp only [exec, execCalibrationProgrammingDone, hp] at h
      obtain rfl := Host.Outcome.next.inj h
      exact .inr (.inr (.inr (.inr (.inr ⟨p.1, p.2, rfl, rfl, rfl⟩))))
  | identityQuery => exact assoc (frame (by simp) rfl)
  | restartRequest => exact assoc (frame (by simp) rfl)
  | postureBeacon => exact assoc (frame (by simp) rfl)
  | drawNotice => exact assoc (frame (by simp) rfl)
  | stopCall => exact assoc (frame (fun s => by split <;> simp) rfl)
  | extend => exact assoc (frame (by simp) rfl)
  | retract => exact assoc (frame (by simp) rfl)
  | level => exact assoc (frame (fun s => by split <;> simp) rfl)
  | stow => exact assoc (frame (by simp) rfl)
  | halt => exact assoc (frame (ordered_store _ _ (by simp)) rfl)
  | clear => exact assoc (frame (ordered_store _ _ (clearAll_store _ _)) rfl)
  | sleep => exact assoc (frame (ordered_store _ _ (by simp)) rfl)
  | runPlan => exact assoc (frame (fun s => by split <;> simp) rfl)
  | protectRequest => exact assoc (frame (by simp) rfl)
  | _ => exact .inl (exec_store_event rfl s t h)

/-- A command lets the store grow, and only a CALIBRATION LOCK, taken now or held back until now, locks it. -/
theorem exec_grows {c : Instr} {s t : State} (hw : s.store.wf = true) (hf : s.store.progFree = true)
    (h : exec c s = .next t) :
    s.store.Grows t.store
      ∧ (t.store.locked = s.store.locked ∨ IsLockFrame c
        ∨ c = .calibrationProgrammingDone ∧ ∃ f ∈ s.store.held, IsLockFrame f) := by
  rcases exec_store h with
    e | e | e | ⟨source, w, cal, e⟩ | ⟨source, target, inp, rfl, e⟩ | ⟨a, bytes, rfl, hp, e⟩
  · rw [e]; exact ⟨.of_cells hw rfl hf id, .inl rfl⟩
  · rw [e]; exact ⟨.of_cells hw rfl hf id, .inl rfl⟩
  · rw [e]; exact ⟨stopProgramming_grows hw hf, .inl (stopProgramming_store s).2.2⟩
  · obtain ⟨grows, lock⟩ := takeWrite_grows source w cal (s := receivedWhole s) hw hf
    rw [e]; exact ⟨grows, .inl lock⟩
  · rw [e]; exact ⟨takeLock_grows source target inp (s := receivedWhole s) hw hf, .inr (.inl ⟨_, _, _, rfl⟩)⟩
  · have done := Store.program_grows hw hp hf
    obtain ⟨grows, lock⟩ := takeHeld_grows s.store.held
      (s := s.onStore fun st => { st.program a bytes with prog := none, held := [] }) done.wf done.free
    rw [e]
    exact ⟨done.trans grows, lock.imp (fun same => by simpa using same) fun held => .inr ⟨rfl, held⟩⟩

end Sys2Proof.Machine

open Sys2Proof Sys2Proof.Machine

/-- Settles O5: `exec_grows` for the command at the front of the queue; a step of the clock leaves the store alone. -/
theorem storeIsWrittenOnce : Obligations.StoreIsWrittenOnce := by
  intro s t hok hstep
  obtain ⟨hw, hf⟩ := Bool.and_eq_true_iff.1 hok
  unfold step at hstep
  split at hstep
  · obtain rfl := Host.Outcome.next.inj hstep
    have same : (tick s).store = s.store := by simp
    refine ⟨by simpa [State.storeOk, same] using hok, by simp [Store.extends], fun h1 h2 => ?_⟩
    rw [same, h1] at h2
    cases h2
  · rename_i c rest hq
    obtain ⟨grows, lock⟩ := exec_grows (s := s.setPending rest) hw hf hstep
    refine ⟨Bool.and_eq_true_iff.2 ⟨grows.wf, grows.free⟩, ⟨grows.bytes, grows.lock⟩, fun h1 h2 => ?_⟩
    rcases lock with same | ⟨source, target, inp, rfl⟩ | ⟨rfl, f, hmem, source, target, inp, rfl⟩
    · rw [same, State.setPending_store, h1] at h2
      cases h2
    · exact .inl ⟨source, target, inp, by rw [hq]; rfl⟩
    · exact .inr ⟨by rw [hq]; rfl, source, target, inp, hmem⟩
end

section
/-! SUPPORT. The CRC of a run followed by its own CRC (R8). -/

namespace Sys2Proof.Machine

/-- While the register's own bits are fed into it, no feedback takes place: it shifts. -/
theorem crcBit_own (c : Half) (i : Nat) : crcBit (c <<< i) (c.getMsbD i) = c <<< (i + 1) := by
  have top : (c <<< i).getMsbD 0 = c.getMsbD i := by simp
  rw [crcBit, top, bne_self_eq_false, if_neg Bool.false_ne_true, BitVec.shiftLeft_add]

/-- A byte that repeats eight bits of the register shifts them out. -/
theorem crcByte_own {c : Half} {b : Byte} {k : Nat} (h : ∀ i < 8, b.getMsbD i = c.getMsbD (k + i)) :
    crcByte (c <<< k) b = c <<< (k + 8) := by
  have bit (i : Nat) (hi : i < 8) : crcBit (c <<< (k + i)) (b.getMsbD i) = c <<< (k + (i + 1)) := by
    rw [h i hi]; exact crcBit_own c (k + i)
  simp only [crcByte, List.foldl_cons, List.foldl_nil]
  rw [show c <<< k = c <<< (k + 0) from rfl, bit 0, bit 1, bit 2, bit 3, bit 4, bit 5, bit 6, bit 7] <;> decide

/-- The register's high-order byte and then its low-order byte empty it. -/
theorem crcByte_crcByte_own (c : Half) : crcByte (crcByte c (c.extractLsb' 8 8)) (c.extractLsb' 0 8) = 0#16 := by
  have high : crcByte (c <<< 0) (c.extractLsb' 8 8) = c <<< (0 + 8) :=
    crcByte_own fun i hi => by
      simp only [BitVec.getMsbD, BitVec.getLsbD_extractLsb']
      have h1 : i < 16 := by omega
      simp [hi, h1, show 7 - i < 8 by omega, show 8 + (7 - i) = 15 - i by omega]
  have low : crcByte (c <<< 8) (c.extractLsb' 0 8) = c <<< (8 + 8) :=
    crcByte_own fun i hi => by
      simp only [BitVec.getMsbD, BitVec.getLsbD_extractLsb']
      simp [hi, show 8 + i < 16 by omega, show 7 - i < 8 by omega, show 15 - (8 + i) = 7 - i by omega]
  rw [BitVec.shiftLeft_zero] at high
  rw [high, low]
  exact BitVec.shiftLeft_eq_zero (by decide)

end Sys2Proof.Machine

open Sys2Proof Sys2Proof.Machine

/-- Settles O26: the CRC of the run stands in the register when its own bytes are fed (`crcByte_crcByte_own`). -/
theorem crcOfItsOwnCrcIsZero : Obligations.CrcOfItsOwnCrcIsZero := by
  refine ⟨fun l => ?_, by decide +kernel⟩
  rw [crc, List.foldl_append]
  exact crcByte_crcByte_own (crc l)
end

section
/-! SUPPORT. What orders, level sessions, plans and faults leave alone beyond the frames of each operation: the controller
and its beacons, the idle count, the protection set, the wind, and the place of each channel. -/

namespace Sys2Proof.Machine

/-! ### What is kept -/

/-- The bus port without what a report, a claim or a STOP CALL changes: the frame in flight, the notices, the STOP CALL and
the draw notice slot. -/
def Bus.wire (b : Bus) : Bus :=
  { b with tx := none, notices := [], stopCall := none, drawSlot := .empty, drawTimer := none }

/-- A channel's place: count, class and switch levels. -/
def Channel.stand (c : Channel) : Nat × PosClass × Bool × Bool := (c.count, c.cls, c.homeClosed, c.outClosed)

/-- What the operations below the node modes leave as it was, the channels' places apart. -/
structure Aside where
  wire : Bus
  idle : Nat
  idleReached : Bool
  inhibitA : Inhibit
  inhibitB : Inhibit
  lock : Bool
  wind : Wind

/-- The same with the places of both channels. -/
structure Kept where
  aside : Aside
  standA : Nat × PosClass × Bool × Bool
  standB : Nat × PosClass × Bool × Bool

/-- What is kept of a state: of the wind unit all but `spent`. -/
def State.kept (s : State) : Kept :=
  { aside := { wire := s.bus.wire, idle := s.orders.idle, idleReached := s.orders.idleReached,
               inhibitA := s.road.inhibitA, inhibitB := s.road.inhibitB, lock := s.road.lock,
               wind := { s.wind with spent := false } }
    standA := s.chA.stand
    standB := s.chB.stand }

/-- An operation that leaves bus port, order unit, road unit, wind unit and channels alone keeps all of it. -/
theorem kept_congr {s t : State} (hb : t.bus = s.bus) (ho : t.orders = s.orders) (hr : t.road = s.road)
    (hw : t.wind = s.wind) (h1 : t.chA = s.chA) (h2 : t.chB = s.chB) : t.kept = s.kept := by
  simp only [State.kept, hb, ho, hr, hw, h1, h2]

/-- What an equal aside says of the state, field by field. -/
theorem aside_fields {s t : State} (h : t.kept.aside = s.kept.aside) :
    t.bus.wire = s.bus.wire ∧ t.orders.idle = s.orders.idle ∧ t.orders.idleReached = s.orders.idleReached
      ∧ t.road.inhibitA = s.road.inhibitA ∧ t.road.inhibitB = s.road.inhibitB ∧ t.road.lock = s.road.lock
      ∧ { t.wind with spent := false } = { s.wind with spent := false } := by
  simpa [State.kept] using h

/-- What an equal wire says of the bus port. -/
theorem wire_fields {b b' : Bus} (h : b'.wire = b.wire) :
    b'.err = b.err ∧ b'.standby = b.standby ∧ b'.beaconTimer = b.beaconTimer ∧ b'.beaconSlot = b.beaconSlot
      ∧ b'.wakeCause = b.wakeCause := by
  have err : b'.wire.err = b.wire.err := by rw [h]
  have standby : b'.wire.standby = b.wire.standby := by rw [h]
  have timer : b'.wire.beaconTimer = b.wire.beaconTimer := by rw [h]
  have slot : b'.wire.beaconSlot = b.wire.beaconSlot := by rw [h]
  have cause : b'.wire.wakeCause = b.wire.wakeCause := by rw [h]
  exact ⟨err, standby, timer, slot, cause⟩

/-! ### The updates -/

@[simp] theorem kept_onNode (f : Node → Node) (s : State) : (s.onNode f).kept = s.kept := rfl
@[simp] theorem kept_onInp (f : Inputs → Inputs) (s : State) : (s.onInp f).kept = s.kept := rfl
@[simp] theorem kept_onPeers (f : List Peer → List Peer) (s : State) : (s.onPeers f).kept = s.kept := rfl
@[simp] theorem kept_setStep (d : Option DutyStep) (s : State) : (s.setStep d).kept = s.kept := rfl
@[simp] theorem kept_onSupply (f : Supply → Supply) (s : State) : (s.onSupply f).kept = s.kept := rfl
@[simp] theorem kept_onLevel (f : Level → Level) (s : State) : (s.onLevel f).kept = s.kept := rfl
@[simp] theorem kept_onSquare (f : Square → Square) (s : State) : (s.onSquare f).kept = s.kept := rfl
@[simp] theorem kept_onStop (f : StopUnit → StopUnit) (s : State) : (s.onStop f).kept = s.kept := rfl
@[simp] theorem kept_onWatch (f : Watch → Watch) (s : State) : (s.onWatch f).kept = s.kept := rfl
@[simp] theorem kept_setFree (n : Nat) (s : State) : (s.setFree n).kept = s.kept := rfl

theorem kept_onBus {f : Bus → Bus} {s : State} (h : (f s.bus).wire = s.bus.wire) : (s.onBus f).kept = s.kept := by
  simp [State.kept, h]

/-- An order unit update that leaves the idle count alone. -/
@[simp] theorem kept_onOrders {f : Orders → Orders} {s : State} (h1 : ∀ u, (f u).idle = u.idle)
    (h2 : ∀ u, (f u).idleReached = u.idleReached) : (s.onOrders f).kept = s.kept := by
  simp [State.kept, h1, h2]

/-- A road unit update that leaves the protection set alone. -/
@[simp] theorem kept_onRoad {f : Road → Road} {s : State} (h1 : ∀ r, (f r).inhibitA = r.inhibitA)
    (h2 : ∀ r, (f r).inhibitB = r.inhibitB) (h3 : ∀ r, (f r).lock = r.lock) :
    (s.onRoad f).kept = s.kept := by
  simp [State.kept, h1, h2, h3]

@[simp] theorem kept_onChA {f : Channel → Channel} {s : State} (h : ∀ c, (f c).stand = c.stand) :
    (s.onChA f).kept = s.kept := by
  simp only [State.kept, State.onChA_chA, State.onChA_chB, State.onChA_bus, State.onChA_orders,
    State.onChA_road, State.onChA_wind, h]

@[simp] theorem kept_onChB {f : Channel → Channel} {s : State} (h : ∀ c, (f c).stand = c.stand) :
    (s.onChB f).kept = s.kept := by
  simp only [State.kept, State.onChB_chA, State.onChB_chB, State.onChB_bus, State.onChB_orders,
    State.onChB_road, State.onChB_wind, h]

@[simp] theorem kept_onChan {ch : ChanId} {f : Channel → Channel} {s : State}
    (h : ∀ c, (f c).stand = c.stand) : (s.onChan ch f).kept = s.kept := by
  cases ch
  · exact kept_onChA h
  · exact kept_onChB h

/-- Whatever happens to a channel, the rest is kept. -/
@[simp] theorem aside_onChan (ch : ChanId) (f : Channel → Channel) (s : State) :
    (s.onChan ch f).kept.aside = s.kept.aside := by
  cases ch <;> rfl

/-! ### Channel records -/

@[simp] theorem Channel.leaveDriving_stand (c : Channel) : c.leaveDriving.stand = c.stand := by
  unfold Channel.leaveDriving; split <;> rfl

@[simp] theorem Channel.rest_stand (a : Activity) (c : Channel) : (c.rest a).stand = c.stand := c.leaveDriving_stand

@[simp] theorem Channel.restIfCarrying_stand (a : Activity) (c : Channel) : (c.restIfCarrying a).stand = c.stand := by
  unfold Channel.restIfCarrying; split <;> simp

@[simp] theorem Channel.wait_stand (c : Channel) : c.wait.stand = c.stand := c.leaveDriving_stand

@[simp] theorem Channel.pauseFor_stand (k : PauseKind) (c : Channel) : (c.pauseFor k).stand = c.stand :=
  c.leaveDriving_stand

@[simp] theorem Channel.takeFault_stand (k : FaultKind) (d : Half) (c : Channel) : (c.takeFault k d).stand = c.stand :=
  c.leaveDriving_stand

@[simp] theorem Channel.start_stand (o : Origin) (d : Dir) (c : Channel) : (c.start o d).stand = c.stand := by
  unfold Channel.start
  dsimp only
  split
  · split
    · rfl
    · split
      · rfl
      · exact c.pauseFor_stand .reversal
  · rfl

@[simp] theorem Channel.drive_stand (d : Dir) (c : Channel) : (c.drive d).stand = c.stand := rfl

@[simp] theorem Channel.lower_stand (d : Nat) (c : Channel) : (c.lower d).stand = c.stand := by
  unfold Channel.lower; split <;> rfl

@[simp] theorem Channel.renew_stand (d : Nat) (c : Channel) : (c.renew d).stand = c.stand := by
  unfold Channel.renew; split <;> rfl

@[simp] theorem yieldChan_stand (cap : Nat) (c : Channel) : (yieldChan cap c).stand = c.stand := by
  unfold yieldChan; split <;> simp

@[simp] theorem Channel.blankOrder_stand (c : Channel) : c.blankOrder.stand = c.stand := by
  unfold Channel.blankOrder; split <;> rfl

@[simp] theorem Channel.idled_stand (c : Channel) : c.idled.stand = c.stand := by
  unfold Channel.idled; split <;> rfl

/-! ### Ops -/

@[simp] theorem pushNotice_kept (n : Notice) (s : State) : (pushNotice n s).kept = s.kept :=
  kept_onBus (by dsimp only; split <;> rfl)

@[simp] theorem notice_kept (code : NoticeCode) (chan : NChan) (requester : Nat) (order : Option Order) (detail : Half)
    (s : State) : (notice code chan requester order detail s).kept = s.kept := pushNotice_kept _ s

@[simp] theorem drawFree_kept (s : State) : (drawFree s).kept = s.kept := rfl

@[simp] theorem dropFaults_kept (p : ActiveFault → Bool) (s : State) : (dropFaults p s).kept = s.kept := rfl

@[simp] theorem dropKind_kept (k : FaultKind) (s : State) : (dropKind k s).kept = s.kept := rfl

@[simp] theorem dropSensor_kept (d : Half) (s : State) : (dropSensor d s).kept = s.kept := rfl

@[simp] theorem stopReport_kept (f : ActiveFault) (s : State) : (stopReport f s).kept = s.kept := by
  unfold stopReport; split <;> rfl

@[simp] theorem raiseFault_kept (k : FaultKind) (chan : NChan) (detail : Half) (s : State) :
    (raiseFault k chan detail s).kept = s.kept := by
  simp [raiseFault]

@[simp] theorem noticeFault_kept (k : FaultKind) (chan : NChan) (requester : Nat) (order : Option Order) (detail : Half)
    (s : State) : (noticeFault k chan requester order detail s).kept = s.kept := by
  simp [noticeFault]

@[simp] theorem releaseDrive_kept (s : State) : (releaseDrive s).kept = s.kept := rfl

@[simp] theorem raiseClaim_kept (b : Nat) (s : State) : (raiseClaim b s).kept = s.kept := rfl

@[simp] theorem releaseClaim_kept (s : State) : (releaseClaim s).kept = s.kept := by
  unfold releaseClaim; split <;> rfl

@[simp] theorem settleClaim_kept (s : State) : (settleClaim s).kept = s.kept := by
  unfold settleClaim; split <;> simp

@[simp] theorem takeAdmission_kept (s : State) : (takeAdmission s).kept = s.kept := by
  apply kept_congr <;> simp

@[simp] theorem zeroPasses_kept (s : State) : (zeroPasses s).kept = s.kept := by
  apply kept_congr <;> simp

@[simp] theorem addAcc_kept (n : Nat) (s : State) : (addAcc n s).kept = s.kept := by
  unfold addAcc; dsimp only; split <;> rfl

@[simp] theorem closeStep_kept (s : State) : (closeStep s).kept = s.kept := by
  unfold closeStep
  split
  · rfl
  · split <;> simp

@[simp] theorem endPlan_kept (o : PlanOutcome) (s : State) : (endPlan o s).kept = s.kept := by
  unfold endPlan; dsimp only; (repeat' split) <;> simp

@[simp] theorem windEnd_kept (t : Task) (how : EndHow) (s : State) : (windEnd t how s).kept = s.kept := by
  unfold windEnd; split <;> rfl

@[simp] theorem stowEnd_kept (t : Task) (how : EndHow) (s : State) : (stowEnd t how s).kept = s.kept := by
  unfold stowEnd; split <;> rfl

@[simp] theorem squareRest_kept (s : State) : (squareRest s).kept = s.kept := rfl

@[simp] theorem finishOrder_kept (how : EndHow) (s : State) : (finishOrder how s).kept = s.kept := by
  unfold finishOrder; split <;> simp

@[simp] theorem startChan_kept (ch : ChanId) (origin : Origin) (dir : Dir) (s : State) :
    (startChan ch origin dir s).kept = s.kept := by
  unfold startChan
  dsimp only
  split
  · split <;> simp
  · simp

@[simp] theorem raiseIfWaiting_kept (origin : Origin) (s : State) : (raiseIfWaiting origin s).kept = s.kept := by
  unfold raiseIfWaiting; split <;> simp

@[simp] theorem clearLevel_kept (s : State) : (clearLevel s).kept = s.kept := rfl

@[simp] theorem clearSession_kept (s : State) : (clearSession s).kept = s.kept := by
  unfold clearSession; split <;> simp

@[simp] theorem stopDwell_kept (s : State) : (stopDwell s).kept = s.kept := rfl

@[simp] theorem restAll_kept (a : Activity) (s : State) : (restAll a s).kept = s.kept := by
  simp [restAll]

@[simp] theorem haltNode_kept (r : HaltReason) (s : State) : (haltNode r s).kept = s.kept := by
  simp [haltNode]

@[simp] theorem faultSession_kept (carried : Bool) (s : State) : (faultSession carried s).kept = s.kept := by
  unfold faultSession; split <;> simp

@[simp] theorem faultOrder_kept (carried : Bool) (s : State) : (faultOrder carried s).kept = s.kept := by
  unfold faultOrder; split <;> simp

@[simp] theorem chanFault_kept (ch : ChanId) (k : FaultKind) (d : Half) (s : State) :
    (chanFault ch k d s).kept = s.kept := by
  unfold chanFault; dsimp only; split <;> simp

@[simp] theorem pairFault_kept (k : FaultKind) (d : Half) (s : State) : (pairFault k d s).kept = s.kept := by
  have take (c : Channel) : (if c.act = .faulted then c else c.takeFault k d).stand = c.stand := by split <;> simp
  simp [pairFault, take]

@[simp] theorem orderFault_kept (k : FaultKind) (d : Half) (s : State) : (orderFault k d s).kept = s.kept := by
  unfold orderFault; (repeat' split) <;> simp

@[simp] theorem accCheck_kept (s : State) : (accCheck s).kept = s.kept := by
  unfold accCheck; split <;> simp

@[simp] theorem updateAlarm_kept (s : State) : (updateAlarm s).kept = s.kept := rfl

/-! ### LevelUnit -/

@[simp] theorem updateConsensus_kept (s : State) : (updateConsensus s).kept = s.kept := rfl

@[simp] theorem startLeg_kept (k : LegKind) (request : Nat) (s : State) : (startLeg k request s).kept = s.kept := by
  simp [startLeg]

@[simp] theorem stopLeg_kept (s : State) : (stopLeg s).kept = s.kept := by
  unfold stopLeg; split <;> simp

@[simp] theorem setRequest_kept (r : Nat) (s : State) : (setRequest r s).kept = s.kept := rfl

@[simp] theorem enterSettling_kept (s : State) : (enterSettling s).kept = s.kept := rfl

@[simp] theorem enterSnugging_kept (s : State) : (enterSnugging s).kept = s.kept := by
  unfold enterSnugging; split <;> simp

@[simp] theorem liftEnd_kept (s : State) : (liftEnd s).kept = s.kept := by
  unfold liftEnd; dsimp only; split <;> simp

@[simp] theorem setLimit_kept (s : State) : (setLimit s).kept = s.kept := rfl

@[simp] theorem evalLift_kept (s : State) : (evalLift s).kept = s.kept := by
  unfold evalLift; dsimp only; (repeat' split) <;> simp

@[simp] theorem tooSteep_kept (s : State) : (tooSteep s).kept = s.kept := by
  simp [tooSteep]

@[simp] theorem enterLifting_kept (s : State) : (enterLifting s).kept = s.kept := by
  unfold enterLifting; split <;> simp

@[simp] theorem testFooting_kept (s : State) : (testFooting s).kept = s.kept := by
  unfold testFooting; split <;> simp

@[simp] theorem updateDwell_kept (s : State) : (updateDwell s).kept = s.kept := rfl

@[simp] theorem evalLevel_kept (s : State) : (evalLevel s).kept = s.kept := by
  unfold evalLevel; split <;> simp

@[simp] theorem enterTrim_kept (s : State) : (enterTrim s).kept = s.kept := by
  unfold enterTrim; split <;> simp

@[simp] theorem trimComplete_kept (s : State) : (trimComplete s).kept = s.kept := by
  unfold trimComplete; split <;> simp

@[simp] theorem beginSession_kept (s : State) : (beginSession s).kept = s.kept := by
  unfold beginSession; dsimp only; split <;> simp

@[simp] theorem footContact_kept (s : State) : (footContact s).kept = s.kept := by
  unfold footContact; dsimp only; split <;> simp

@[simp] theorem strokeLimit_kept (s : State) : (strokeLimit s).kept = s.kept := by
  unfold strokeLimit; dsimp only; split <;> simp

/-! ### Engine -/

@[simp] theorem recompose_kept (s : State) : (recompose s).kept = s.kept := by
  simp [recompose]

@[simp] theorem openStep_kept (s : State) : (openStep s).kept = s.kept := by
  simp [openStep]

@[simp] theorem squareTest_kept (s : State) : (squareTest s).kept = s.kept := by
  apply kept_congr <;> simp

@[simp] theorem updateWaits_kept (s : State) : (updateWaits s).kept = s.kept := rfl

@[simp] theorem yieldAll_kept (s : State) : (yieldAll s).kept = s.kept := by
  simp [yieldAll]

@[simp] theorem placeChan_aside (ch : ChanId) (n : Nat) (s : State) :
    (placeChan ch n s).kept.aside = s.kept.aside := by
  unfold placeChan; dsimp only; split <;> simp

@[simp] theorem snapHome_aside (ch : ChanId) (s : State) : (snapHome ch s).kept.aside = s.kept.aside := by
  unfold snapHome; dsimp only; split <;> simp

@[simp] theorem snapOut_aside (ch : ChanId) (s : State) : (snapOut ch s).kept.aside = s.kept.aside :=
  placeChan_aside _ _ s

@[simp] theorem endOfTravel_kept (ch : ChanId) (s : State) : (endOfTravel ch s).kept = s.kept := by
  unfold endOfTravel; dsimp only; split <;> simp

@[simp] theorem tryDrive_aside (ch : ChanId) (s : State) : (tryDrive ch s).kept.aside = s.kept.aside := by
  unfold tryDrive; dsimp only; (repeat' split) <;> simp

@[simp] theorem afterDrive_kept (s t : State) : (afterDrive s t).kept = t.kept := by
  unfold afterDrive; split <;> simp

@[simp] theorem beginSteps_kept (s : State) : (beginSteps s).kept = s.kept := by
  unfold beginSteps; split <;> simp

@[simp] theorem engage_aside (s : State) : (engage s).kept.aside = s.kept.aside := by
  unfold engage; dsimp only; split <;> simp

@[simp] theorem lowUpdate_kept (s : State) : (lowUpdate s).kept = s.kept := rfl

@[simp] theorem rackUpdate_kept (s : State) : (rackUpdate s).kept = s.kept := by
  apply kept_congr <;> simp

@[simp] theorem runEngines_aside (s : State) : (runEngines s).kept.aside = s.kept.aside := by
  simp [runEngines]

/-! ### OrderUnit -/

@[simp] theorem endPrevious_kept (s : State) : (endPrevious s).kept = s.kept := by
  unfold endPrevious; dsimp only; (repeat' split) <;> simp

@[simp] theorem endStanding_kept (o : CurOrder) (s : State) : (endStanding o s).kept = s.kept := by
  apply kept_congr <;> simp

@[simp] theorem startAll_kept (origin : Origin) (dir : Dir) (s : State) : (startAll origin dir s).kept = s.kept := by
  unfold startAll
  rcases s.chanIds_cases with h | h <;> simp [h]

@[simp] theorem dropStep_kept (s : State) : (dropStep s).kept = s.kept := by
  apply kept_congr <;> simp

@[simp] theorem reclaim_kept (origin : Origin) (s : State) : (reclaim origin s).kept = s.kept := by
  unfold reclaim; split <;> simp

@[simp] theorem beginOrder_kept (o : CurOrder) (hold : Option Hold) (s : State) :
    (beginOrder o hold s).kept = s.kept := by
  unfold beginOrder; dsimp only; split <;> simp

@[simp] theorem endQuiet_kept (s : State) : (endQuiet s).kept = s.kept := rfl

@[simp] theorem beginAuto_kept (t : Task) (s : State) : (beginAuto t s).kept = s.kept := by
  simp [beginAuto]

@[simp] theorem windTest_kept (s : State) : (windTest s).kept = s.kept := by
  unfold windTest; split <;> simp

@[simp] theorem leftStowed_kept (before : PosClass) (s : State) : (leftStowed before s).kept = s.kept := by
  unfold leftStowed; split <;> simp

@[simp] theorem settle_aside (s : State) : (settle s).kept.aside = s.kept.aside := by
  unfold settle; split <;> simp

@[simp] theorem raiseStow_kept (s : State) : (raiseStow s).kept = s.kept := by
  simp [raiseStow]

@[simp] theorem setStow_kept (x : Stow) (s : State) : (setStow x s).kept = s.kept := rfl

@[simp] theorem heldBackTest_kept (s : State) : (heldBackTest s).kept = s.kept := by
  unfold heldBackTest; (repeat' split) <;> simp

@[simp] theorem stowBegin_kept (s : State) : (stowBegin s).kept = s.kept := by
  unfold stowBegin; dsimp only; (repeat' split) <;> simp

@[simp] theorem stowAtRun_kept (s : State) : (stowAtRun s).kept = s.kept := by
  unfold stowAtRun; split <;> simp

@[simp] theorem spendPresses_kept (s : State) : (spendPresses s).kept = s.kept := rfl

@[simp] theorem haltAll_kept (r : HaltReason) (s : State) : (haltAll r s).kept = s.kept := by
  simp [haltAll]

@[simp] theorem stopFall_kept (s : State) : (stopFall s).kept = s.kept := by
  simp [stopFall]

@[simp] theorem roadHalt_kept (s : State) : (roadHalt s).kept = s.kept := by
  unfold roadHalt; (repeat' split) <;> simp

@[simp] theorem roadPlan_kept (s : State) : (roadPlan s).kept = s.kept := by
  unfold roadPlan
  dsimp only
  rw [endPlan_kept]
  split
  · split
    · rfl
    · rfl
  · rfl

@[simp] theorem roadAlarm_kept (s : State) : (roadAlarm s).kept = s.kept := by
  unfold roadAlarm; dsimp only; split <;> simp

@[simp] theorem roadRelease_kept (s : State) : (roadRelease s).kept = s.kept := by
  unfold roadRelease; dsimp only; split <;> simp

@[simp] theorem cancelStow_kept (s : State) : (cancelStow s).kept = s.kept := by
  unfold cancelStow; split <;> simp

@[simp] theorem parkAsserted_kept (s : State) : (parkAsserted s).kept = s.kept := by
  simp [parkAsserted]

@[simp] theorem refusePress_kept (reason : Reason) (chan : NChan) (panel : Nat) (o : Order) (detail : Half)
    (s : State) : (refusePress reason chan panel o detail s).kept = s.kept := notice_kept ..

/-! ### PlanUnit -/

@[simp] theorem setPart_kept (p : Part) (s : State) : (setPart p s).kept = s.kept := rfl

@[simp] theorem failPart_kept (reason : Reason) (c : Cursor) (t : Task) (s : State) :
    (failPart reason c t s).kept = s.kept := by
  simp [failPart]

@[simp] theorem barPart_kept (c : Cursor) (t : Task) (s : State) : (barPart c t s).kept = s.kept := by
  unfold barPart; split <;> simp

@[simp] theorem tryPart_kept (s : State) : (tryPart s).kept = s.kept := by
  unfold tryPart; dsimp only; (repeat' split) <;> simp

@[simp] theorem beginStep_kept (s : State) : (beginStep s).kept = s.kept := by
  unfold beginStep; (repeat' split) <;> simp

@[simp] theorem advance_kept (s : State) : (advance s).kept = s.kept := by
  unfold advance; (repeat' split) <;> simp

@[simp] theorem haltPart_kept (s : State) : (haltPart s).kept = s.kept := by
  unfold haltPart; split <;> simp

@[simp] theorem stepFail_kept (s : State) : (stepFail s).kept = s.kept := by
  unfold stepFail; dsimp only; (repeat' split) <;> simp

@[simp] theorem retest_aside (s : State) : (retest s).kept.aside = s.kept.aside := by
  unfold retest; split <;> simp

@[simp] theorem planLoop_aside (n : Nat) (s : State) : (planLoop n s).kept.aside = s.kept.aside := by
  induction n generalizing s with
  | zero => rfl
  | succ n ih => unfold planLoop; dsimp only; (repeat' split) <;> simp [ih]

/-! ### Modes -/

@[simp] theorem reportJacks_kept (s : State) : (reportJacks s).kept = s.kept := by
  unfold reportJacks; split <;> simp

@[simp] theorem emptyTable_kept (s : State) : (emptyTable s).kept = s.kept := by
  simp [emptyTable, clearPeers]

@[simp] theorem readDroop_kept (s : State) : (readDroop s).kept = s.kept := rfl

@[simp] theorem passArisen_kept (isns : ChanId → Current) (p : ActiveFault → Bool) (s : State) :
    (passArisen isns p s).kept = s.kept := rfl

@[simp] theorem sensorFault_kept (d : Half) (s : State) : (sensorFault d s).kept = s.kept := by
  simp [sensorFault]

@[simp] theorem readSwitches_aside (s : State) (ch : ChanId) : (readSwitches s ch).kept.aside = s.kept.aside := by
  unfold readSwitches; dsimp only; (repeat' split) <;> simp

@[simp] theorem readFoot_kept (s : State) : (readFoot s).kept = s.kept := by
  unfold readFoot; dsimp only; (repeat' split) <;> simp

@[simp] theorem readStop_kept (s : State) : (readStop s).kept = s.kept := by
  unfold readStop; split <;> simp

@[simp] theorem readPark_kept (s : State) : (readPark s).kept = s.kept := by
  unfold readPark; split <;> simp

@[simp] theorem checkSense_kept (s : State) (ch : ChanId) : (checkSense s ch).kept = s.kept := by
  unfold checkSense; split <;> simp

@[simp] theorem checkSenses_kept (s : State) : (checkSenses s).kept = s.kept := by
  unfold checkSenses; rcases s.chanIds_cases with h | h <;> simp only [h] <;> split <;> simp

@[simp] theorem checkPair_kept (s : State) (ch : ChanId) : (checkPair s ch).kept = s.kept := by
  unfold checkPair; split <;> simp

@[simp] theorem checkPairs_kept (s : State) : (checkPairs s).kept = s.kept := by
  unfold checkPairs; rcases s.chanIds_cases with h | h <;> simp only [h] <;> split <;> simp

@[simp] theorem startTiltCheck_kept (s : State) : (startTiltCheck s).kept = s.kept := by
  unfold startTiltCheck; split <;> simp

@[simp] theorem pairAtRun_kept (s : State) : (pairAtRun s).kept = s.kept := by
  unfold pairAtRun; split <;> simp

@[simp] theorem trimAtRun_kept (woke : WakeCause) (s : State) : (trimAtRun woke s).kept = s.kept := by
  unfold trimAtRun; (repeat' split) <;> simp

end Sys2Proof.Machine
end

section
/-! SUPPORT. The node held in reset, and a programming that a reset stops (R1, R7). -/

namespace Sys2Proof.Machine

/-- With no programming in progress a reset keeps the store but for the frames held back, and starts every block afresh. -/
theorem holdReset_eq {s : State} (h : s.store.prog = none) :
    holdReset s = { s with
      node := s.node.restarted, store := { s.store with held := [] }, bus := .fresh, peers := [], orders := .fresh,
      chA := .fresh, chB := .fresh, step := none, supply := .fresh, level := .fresh, square := .fresh, wind := .fresh,
      stop := .fresh, road := .fresh, watch := .fresh } := by
  have stop : stopProgramming s = s.onStore fun st => { st with held := [] } := by simp only [stopProgramming, h]
  rw [holdReset, stop]
  rfl

/-- The store of a node held in reset is what the stopped programming leaves. -/
theorem holdReset_store (f : Node → Node) (s : State) : ((holdReset s).onNode f).store = (stopProgramming s).store := by
  simp [holdReset]

/-- A stopped programming of four bytes leaves a store whose every byte is old or new (R7). -/
def Store.OldOrNew (a : Nat) (bytes : List Byte) (st st' : Store) : Prop :=
  st'.prog = none ∧ st'.held = [] ∧ st'.locked = st.locked
    ∧ ∀ x : Nat, (st'.written x = st.written x ∧ st'.read x = st.read x)
      ∨ (st.written x = false ∧ (x = a ∨ x = a + 1 ∨ x = a + 2 ∨ x = a + 3) ∧ st'.written x = true
          ∧ some (st'.read x) = bytes[x - a]?)

theorem stopProgramming_oldOrNew {s : State} {a : Nat} {bytes : List Byte} (hok : s.storeOk = true)
    (hp : s.store.prog = some (a, bytes)) : Store.OldOrNew a bytes s.store (stopProgramming s).store := by
  obtain ⟨noProg, noHeld, lock⟩ := stopProgramming_store s
  refine ⟨noProg, noHeld, lock, fun x => ?_⟩
  rcases stopProgramming_find hp (Bool.and_eq_true_iff.1 hok).2 x with same | ⟨unwritten, i, hl, h4, rfl, new⟩
  · exact .inl (by simp [Store.written, Store.read, same])
  · have value : cellsFind (stopProgramming s).store.cells (a + i) = some bytes[i] := by
      rw [new, List.getElem?_eq_getElem hl]
    refine .inr ⟨by simp [Store.written, unwritten], by omega, by simp [Store.written, value], ?_⟩
    rw [Nat.add_sub_cancel_left, List.getElem?_eq_getElem hl, Store.read, value, Option.getD_some]

end Sys2Proof.Machine

open Sys2Proof Sys2Proof.Machine

/-- Settles O18 by `holdReset_eq`. -/
theorem heldInResetClearsTheNode : Obligations.HeldInResetClearsTheNode := by
  refine ⟨fun s h => ?_, fun s h => ?_, fun inp s h low => ?_, fun inp s low vbat => ?_⟩
  · exact ⟨_, rfl, by rw [holdReset_eq h]; rfl, rfl, rfl, rfl, rfl, rfl, rfl⟩
  · exact ⟨_, rfl, by rw [holdReset_eq h]; rfl, rfl, rfl, rfl, rfl, rfl, rfl⟩
  · have held : exec (.powerOn inp) s
        = .next ((holdReset s).onNode fun n => { n with vbatLow := false, supplyUp := true }) := by
      have : ((holdReset s).onNode fun n => { n with vbatLow := false, supplyUp := true }).node.nrstLow = true := by
        rw [holdReset_eq h]; exact low
      simp only [exec, execPowerOn, this, if_true]
    exact ⟨_, held, by rw [holdReset_eq h]; rfl, rfl⟩
  · simp only [exec, execNrstHigh, low, if_true]
    exact congrArg _ (if_pos vbat)

/-- Settles O19: all three commands leave the store of `stopProgramming`. -/
theorem stoppedProgrammingLeavesOldOrNew : Obligations.StoppedProgrammingLeavesOldOrNew := by
  have leaves {c : Instr} {s t : State} {a : Nat} {bytes : List Byte} (hok : s.storeOk = true)
      (hp : s.store.prog = some (a, bytes)) (hx : exec c s = .next t) (store : t.store = (stopProgramming s).store) :
      ∃ t, exec c s = .next t ∧ Store.OldOrNew a bytes s.store t.store :=
    ⟨t, hx, store ▸ stopProgramming_oldOrNew hok hp⟩
  refine ⟨fun a bytes s hok hp _ => ?_, fun a bytes s hok hp _ => ?_, fun inp a bytes s hok hp _ => ?_⟩
  · exact leaves hok hp rfl (holdReset_store _ s)
  · exact leaves hok hp rfl (holdReset_store _ s)
  · refine leaves hok hp rfl ?_
    split
    · exact holdReset_store _ s
    · exact (enterStart_frame false inp _).1.trans (holdReset_store _ s)
end

section
/-! SUPPORT. Frames that reach their block: the identity reply (R15) and the refusals of the calibration frames (R6, R9). -/

namespace Sys2Proof.Machine

/-- A frame that reaches its block is received whole and taken. -/
theorem receive_delivers {frame : Instr} {k : Kind} {source : Nat} {take : State → State} {s : State}
    (h : s.delivers k source = true) : receive frame k source take s = take (receivedWhole s) := by
  simp only [State.delivers, Bool.and_eq_true, decide_eq_true_eq, Option.isNone_iff_eq_none] at h
  obtain ⟨⟨⟨⟨⟨start, watch⟩, off⟩, joined⟩, allowed⟩, prog⟩ := h
  simp [receive, State.offBus, start, watch, off, joined, allowed, prog]

/-- A frame received whole changes the receive error count and the error state alone. -/
theorem receivedWhole_bus (s : State) :
    (receivedWhole s).bus
      = { s.bus with rxErrors := s.bus.rxErrors - 1, err := (receivedWhole s).bus.err } := by
  simp only [receivedWhole, State.onBus_bus, Bus.errState]
  split <;> rfl

@[simp] theorem receivedWhole_slots (s : State) :
    (receivedWhole s).bus.notices = s.bus.notices ∧ (receivedWhole s).bus.identity = s.bus.identity
      ∧ (receivedWhole s).bus.tx = s.bus.tx := by
  rw [receivedWhole_bus]
  exact ⟨rfl, rfl, rfl⟩

/-- The node is in LISTEN or RUN. -/
theorem active_iff {s : State} : s.active = true ↔ s.node.mode = .listen ∨ s.node.mode = .run := by
  simp [State.active]

/-! ### The identity reply -/

/-- The reply's part code, revision and role, record state, mode and lockout cause as R15 lays them out. -/
theorem identityReply_eq (s : State) :
    identityReply s = [signature s.store.state, 0x01#8, 0xAE#8,
      byteOf (32 + 4 * roleCode s.node.role + recordStateCode s.store.state), byteOf s.node.station, s.store.read 254,
      s.store.read 255, byteOf (32 * modeCode s.node.mode + lockoutCode s.node.lockout)] := by
  have part : halfBytes Config.partCode = [0x01#8, 0xAE#8] := by decide
  rw [identityReply, part, Nat.mul_comm (roleCode _) 4, Nat.mul_comm (modeCode _) 32]
  rfl

/-- A pending reply stands. -/
theorem takeQuery_pending {target : Byte} {s : State} (h : s.bus.identity.isSome = true) : takeQuery target s = s := by
  have stands (r : List Byte) : { s.bus with identity := s.bus.identity <|> some r } = s.bus := by
    obtain ⟨reply, hr⟩ := Option.isSome_iff_exists.1 h
    have first : (s.bus.identity <|> some r) = s.bus.identity := by rw [hr]; rfl
    rw [first]
  unfold takeQuery
  split
  · exact congrArg (fun b => { s with bus := b }) (stands _)
  · rfl

/-! ### Refusals with room in the queue -/

/-- With room in the queue a notice joins it; beside that only the frame in flight may change. -/
theorem notice_room {s : State} (room : s.bus.notices.length < 8) (code : NoticeCode) (ch : NChan) (rq : Nat)
    (o : Option Order) (d : Half) :
    notice code ch rq o d s = { s with
      bus := { s.bus with
        tx := (notice code ch rq o d s).bus.tx,
        notices := s.bus.notices ++ [{ code := code, chan := ch, requester := rq, order := o, detail := d }] } } := by
  have joins : queueNotice { code := code, chan := ch, requester := rq, order := o, detail := d } s.bus.notices
      = s.bus.notices ++ [{ code := code, chan := ch, requester := rq, order := o, detail := d }] := if_pos room
  simp only [notice, pushNotice, State.onBus, joins]
  split <;> rfl

/-- A calibration frame refused on receipt leaves everything but the bus port as it was. -/
theorem refuseCal_received {s : State} (room : s.bus.notices.length < 8) (reason : Reason) (source : Nat) (d : Half) :
    refuseCal reason source d (receivedWhole s) = { receivedWhole s with
      bus := { (receivedWhole s).bus with
        tx := (refuseCal reason source d (receivedWhole s)).bus.tx,
        notices := s.bus.notices ++ [{ code := .refusal reason, chan := .node, requester := source, order := none,
                                       detail := d }] } } := by
  have slots := (receivedWhole_slots s).1
  have room' : (receivedWhole s).bus.notices.length < 8 := by rwa [slots]
  have refused := notice_room room' (.refusal reason) .node source none d
  rwa [slots] at refused

end Sys2Proof.Machine

open Sys2Proof Sys2Proof.Machine

/-- Settles O21: the query reaches its block (`receive_delivers`), which fills an empty slot with `identityReply_eq`. -/
theorem queryIsAnswered : Obligations.QueryIsAnswered := by
  constructor
  · intro source target s delivered named free
    have taken : exec (.identityQuery source target) s = .next (takeQuery target (receivedWhole s)) :=
      congrArg _ (receive_delivers delivered)
    have named' : byteNames target (receivedWhole s).node.station = true := by simpa using named
    rw [taken, takeQuery, if_pos named', identityReply_eq]
    simp only [State.onBus, receivedWhole_slots, free, receivedWhole_frame]
    congr
  · intro source target s delivered pending
    have taken : exec (.identityQuery source target) s = .next (takeQuery target (receivedWhole s)) :=
      congrArg _ (receive_delivers delivered)
    rw [taken, takeQuery_pending (by simpa using pending)]

/-- Settles O25: each frame reaches its block, which refuses it (`refuseCal_received`). -/
theorem calibrationFramesAreRefused : Obligations.CalibrationFramesAreRefused := by
  have write {source : Nat} {w : CalWrite} {cal : Bool} {s : State}
      (delivered : s.delivers .calibrationWrite source = true) :
      exec (.calibrationWrite source w cal) s = .next (takeWrite source w cal (receivedWhole s)) :=
    congrArg _ (receive_delivers delivered)
  have lock {source : Nat} {target : Byte} {inp : Inputs} {s : State}
      (delivered : s.delivers .calibrationLock source = true) :
      exec (.calibrationLock source target inp) s = .next (takeLock source target inp (receivedWhole s)) :=
    congrArg _ (receive_delivers delivered)
  refine ⟨fun source w cal s delivered own refusing room => ?_, fun source w s delivered own setup high room => ?_,
    fun source w n s delivered own setup low first room => ?_,
    fun source target inp s delivered own setup cal bad room => ?_,
    fun source target inp s delivered own refusing room => ?_⟩
  · have taken : takeWrite source w cal (receivedWhole s)
        = refuseCal .notPermitted source (BitVec.ofNat 16 w.offset.toNat) (receivedWhole s) := by
      unfold takeWrite
      rcases refusing with ⟨setup, rfl⟩ | active
      · simp [own, setup]
      · have act : (receivedWhole s).active = true := active
        rcases active_iff.1 active with m | m <;> simp [own, m, act]
    exact ⟨_, write delivered, by rw [taken]; exact refuseCal_received room ..⟩
  · have taken : takeWrite source w true (receivedWhole s)
        = refuseCal .notPermitted source (BitVec.ofNat 16 w.offset.toNat) (receivedWhole s) := by
      simp [takeWrite, setupWrite, own, setup, high]
    exact ⟨_, write delivered, by rw [taken]; exact refuseCal_received room ..⟩
  · have taken : takeWrite source w true (receivedWhole s)
        = refuseCal .alreadyWritten source (BitVec.ofNat 16 n) (receivedWhole s) := by
      simp [takeWrite, setupWrite, own, setup, show ¬ 253 ≤ w.offset.toNat by omega, first]
    exact ⟨_, write delivered, by rw [taken]; exact refuseCal_received room .., Store.firstWritten_some first⟩
  · have taken : takeLock source target inp (receivedWhole s)
        = refuseCal .crcMismatch source (BitVec.ofNat 16 (min s.store.unwritten 255)) (receivedWhole s) := by
      rcases bad with state | crc
      · simp [takeLock, setupLock, own, setup, cal, state]
      · simp [takeLock, setupLock, own, setup, cal, crc]
    exact ⟨_, lock delivered, by rw [taken]; exact refuseCal_received room ..⟩
  · have taken : takeLock source target inp (receivedWhole s)
        = refuseCal .notPermitted source (receivedWhole s).freeDetail (drawFree (receivedWhole s)) := by
      unfold takeLock
      rcases refusing with ⟨setup, low⟩ | active
      · simp [own, setup, low]
      · have act : (receivedWhole s).active = true := active
        rcases active_iff.1 active with m | m <;> simp [own, m, act]
    refine ⟨_, lock delivered, ?_⟩
    have slots : (drawFree (receivedWhole s)).bus.notices = s.bus.notices := by simp
    have refused := notice_room (s := drawFree (receivedWhole s)) (by rwa [slots]) (.refusal .notPermitted) .node source
      none (receivedWhole s).freeDetail
    rw [slots] at refused
    have last : (refuseCal .notPermitted source (receivedWhole s).freeDetail (drawFree (receivedWhole s))).bus.notices
        = s.bus.notices ++ [{ code := .refusal .notPermitted, chan := .node, requester := source, order := none,
                              detail := (receivedWhole s).freeDetail }] := by
      rw [refuseCal, refused]
    rw [taken, last, List.getLast?_append, List.getLast?_singleton]
    simp only [Option.some_or, Option.elim_some]
    exact refused
end

section
/-! SUPPORT. The entry to LISTEN (R11, R12) and START with its decision (R1 to R3). -/

namespace Sys2Proof.Machine

/-! ### The record depends on the cells alone -/

/-- Two stores with the same cells read alike. -/
theorem Store.read_congr {st st' : Store} (h : st'.cells = st.cells) : st'.read = st.read := by
  funext a
  simp only [Store.read, h]

theorem Store.readRun_congr {st st' : Store} (h : st'.read = st.read) (a n : Nat) :
    st'.readRun a n = st.readRun a n := by
  induction n generalizing a with
  | zero => rfl
  | succ n ih => simp only [Store.readRun, h, ih]

/-- One-byte and two-byte fields with and without a default depend on the bytes alone (R174). -/
theorem fields_congr {st st' : Store} (h : st'.read = st.read) :
    st'.u8 = st.u8 ∧ st'.u16 = st.u16 ∧ st'.s16 = st.s16 ∧ st'.u8d = st.u8d ∧ st'.u16d = st.u16d
      ∧ st'.bit = st.bit := by
  have u8 : st'.u8 = st.u8 := by funext a; rw [Store.u8, h, ← Store.u8]
  have u16 : st'.u16 = st.u16 := by funext a; rw [Store.u16, h, ← Store.u16]
  refine ⟨u8, u16, ?_, ?_, ?_, ?_⟩
  · funext a; rw [Store.s16, h, ← Store.s16]
  · funext a d; rw [Store.u8d, u8, ← Store.u8d]
  · funext a d; rw [Store.u16d, u16, ← Store.u16d]
  · funext a n; rw [Store.bit, h, ← Store.bit]

theorem readSteps_congr {st st' : Store} (h : st'.read = st.read) (a n : Nat) :
    readSteps st' a n = readSteps st a n := by
  obtain ⟨u8, u16, -⟩ := fields_congr h
  induction n generalizing a with
  | zero => rfl
  | succ n ih => rw [readSteps, u8, u16, ih, ← readSteps]

/-- So do plans and jack table entries. -/
theorem readPlan_congr {st st' : Store} (h : st'.read = st.read) :
    planCount st' = planCount st ∧ readPlan st' = readPlan st ∧ readJackEntry st' = readJackEntry st := by
  obtain ⟨u8, u16, s16, -, u16d, -⟩ := fields_congr h
  have count : planCount st' = planCount st := by funext p; rw [planCount, u8, ← planCount]
  have steps : readSteps st' = readSteps st := by funext a n; exact readSteps_congr h a n
  refine ⟨count, ?_, ?_⟩
  · funext p; unfold readPlan; rw [count, u8, u16d, steps]
  · funext n; unfold readJackEntry; rw [u16, s16]

/-- Two stores with the same cells have the same CRC test, fields and validity check (R3, R4, R174). -/
theorem record_congr {st st' : Store} (hc : st'.cells = st.cells) :
    st'.crcOk = st.crcOk ∧ readCal st' = readCal st ∧ recordValid st' = recordValid st := by
  have h := Store.read_congr hc
  obtain ⟨u8, u16, s16, u8d, u16d, bit⟩ := fields_congr h
  obtain ⟨count, plans, jacks⟩ := readPlan_congr h
  have chan : readChanCal st' = readChanCal st := by funext a; unfold readChanCal; rw [u8, u16, bit]
  have cal : readCal st' = readCal st := by unfold readCal; rw [u8, u8d, u16d, bit, plans, jacks, chan, h]
  have ones : notOnes8 st' = notOnes8 st ∧ notOnes16 st' = notOnes16 st :=
    ⟨by funext a; rw [notOnes8, u8, ← notOnes8], by funext a; rw [notOnes16, u16, ← notOnes16]⟩
  have entry : jackEntryOk st' = jackEntryOk st := by funext c n; unfold jackEntryOk; rw [jacks, ones.2]
  have plan : planOk st' = planOk st := by funext c p; unfold planOk; rw [count, plans]
  have chanOk : chanOk st' = chanOk st := by funext a c n; unfold Machine.chanOk; rw [ones.1]
  have role : roleOk st' = roleOk st := by funext c r; unfold roleOk; rw [chanOk, ones.1]
  refine ⟨?_, cal, ?_⟩
  · simp only [Store.crcOk, Store.crc, Store.storedCrc, Store.readRun_congr h, h]
  · funext r station
    unfold recordValid commonOk
    rw [cal, entry, plan, role, ones.1, ones.2]

/-! ### Entry to LISTEN -/

/-- Which node it is, and why it started. -/
def Node.identity (n : Node) : Role × Nat × WakeCause := (n.role, n.station, n.startCause)

/-- LOCKOUT keeps role, station and start cause, and carries its cause (R14). -/
@[simp] theorem enterLockout_node (cause : LockoutCause) (s : State) :
    (enterLockout cause s).node
      = { s.node with mode := .lockout, lockout := cause, listen := none, extended := false, wokeBy := .none } := by
  simp [enterLockout]

/-- The temperature check leaves role, station and start cause, whether the node overheats or not. -/
theorem checkTemp_identity (s : State) : (checkTemp s).node.identity = s.node.identity := by
  unfold checkTemp
  dsimp only
  (repeat' split) <;> simp [Node.identity]

/-- On a driver that does not overheat the temperature check leaves the node as it is (R12). -/
theorem checkTemp_cool {s : State} (h : overheats s.inp = false) :
    (checkTemp s).node = s.node ∧ (checkTemp s).kept = s.kept := by
  unfold checkTemp
  dsimp only
  split
  · simp
  · rename_i sound
    have sound' : tempSound s.inp.temp = true := by simpa using sound
    rw [if_neg (by simpa [overheats, sound'] using h)]
    simp

/-- The readings of an entry to LISTEN before the temperature check. -/
def beforeTemp (s : State) : State :=
  checkPairs (checkSenses (readPark (readStop (readFoot
    (passArisen s.inp.isns (fun _ => true) (s.chanIds.foldl readSwitches (readDroop s)))))))

theorem listenReadings_eq (s : State) : listenReadings s = checkTemp (beforeTemp s) := rfl

theorem beforeTemp_frame (s : State) :
    (beforeTemp s).node = s.node ∧ (beforeTemp s).inp = s.inp ∧ (beforeTemp s).kept.aside = s.kept.aside := by
  rcases s.chanIds_cases with h | h <;> simp [beforeTemp, h]

theorem listenReadings_identity (s : State) : (listenReadings s).node.identity = s.node.identity := by
  obtain ⟨node, -⟩ := beforeTemp_frame s
  rw [listenReadings_eq, checkTemp_identity, node]

/-- On a driver that does not overheat the readings leave the node in LISTEN, and the controller and the protection set as
they were. -/
theorem listenReadings_cool {s : State} (h : overheats s.inp = false) :
    (listenReadings s).node = s.node ∧ (listenReadings s).kept.aside = s.kept.aside := by
  obtain ⟨node, inp, aside⟩ := beforeTemp_frame s
  obtain ⟨cool, kept⟩ := checkTemp_cool (by rw [inp]; exact h)
  exact ⟨cool.trans node, (congrArg Kept.aside kept).trans aside⟩

/-- The state in which an entry to LISTEN takes its readings. -/
def listening (cause : WakeCause) (inp : Inputs) (s : State) : State :=
  let s := s.onNode fun n =>
    { n with mode := .listen, listen := some 0, extended := false, idleFailedA := false, idleFailedB := false }
  let s := (s.onInp fun _ => inp).onBus (Bus.startBeacons cause)
  let s := s.onOrders fun u => { u with idleReached := false }
  let s := if s.node.role = .awning then
      s.onWind fun w => { w with window := some 0, pulses := 0, own := 255 }
    else s
  startTiltCheck (stopDwell s)

theorem enterListen_eq (cause : WakeCause) (inp : Inputs) (s : State) :
    enterListen cause inp s = listenReadings (listening cause inp s) := rfl

/-- Mode and window are set, the inputs taken, and a beacon with its cause falls due; protection set, hold-off and what else
the node holds stay. -/
theorem listening_fields (cause : WakeCause) (inp : Inputs) (s : State) :
    (listening cause inp s).node
        = { s.node with mode := .listen, listen := some 0, extended := false, idleFailedA := false, idleFailedB := false }
      ∧ (listening cause inp s).inp = inp ∧ (listening cause inp s).bus = s.bus.startBeacons cause
      ∧ (listening cause inp s).orders = { s.orders with idleReached := false }
      ∧ (listening cause inp s).road = s.road ∧ (listening cause inp s).wind.holdOff = s.wind.holdOff
      ∧ (listening cause inp s).chA = s.chA ∧ (listening cause inp s).chB = s.chB
      ∧ (listening cause inp s).supply = s.supply ∧ (listening cause inp s).stop = s.stop := by
  unfold listening
  dsimp only
  split <;> simp

@[simp] theorem startBeacons_fields (cause : WakeCause) (b : Bus) :
    (b.startBeacons cause).wakeCause = cause ∧ (b.startBeacons cause).beaconTimer = some 0
      ∧ (b.startBeacons cause).err = b.err := by
  unfold Bus.startBeacons
  dsimp only
  split <;> simp [Bus.unlive]

/-- An entry to LISTEN keeps role, station and start cause and takes the inputs. -/
theorem enterListen_identity (cause : WakeCause) (inp : Inputs) (s : State) :
    (enterListen cause inp s).node.identity = s.node.identity ∧ (enterListen cause inp s).inp = inp := by
  obtain ⟨node, inputs, -⟩ := listening_fields cause inp s
  rw [enterListen_eq]
  refine ⟨?_, by simp [inputs]⟩
  rw [listenReadings_identity, node]
  rfl

/-- What the readings of a driver that does not overheat leave of the bus port and of the protection set. -/
theorem listenReadings_keeps {s : State} (h : overheats s.inp = false) :
    (listenReadings s).node = s.node ∧ (listenReadings s).bus.wire = s.bus.wire
      ∧ (listenReadings s).road.inhibitA = s.road.inhibitA ∧ (listenReadings s).road.inhibitB = s.road.inhibitB
      ∧ (listenReadings s).road.lock = s.road.lock ∧ (listenReadings s).wind.holdOff = s.wind.holdOff := by
  obtain ⟨node, aside⟩ := listenReadings_cool h
  generalize listenReadings s = t at node aside ⊢
  obtain ⟨wire, -, -, inhibitA, inhibitB, lock, wind⟩ := aside_fields aside
  injection wind with _ _ _ _ _ holdOff
  exact ⟨node, wire, inhibitA, inhibitB, lock, holdOff⟩

/-- On a driver that does not overheat it leaves the node in LISTEN with the window at 0 and a beacon with its cause due,
and keeps protection set and hold-off (R11, R26). -/
theorem enterListen_cool {inp : Inputs} (h : overheats inp = false) (cause : WakeCause) (s : State) :
    (enterListen cause inp s).node
        = { s.node with mode := .listen, listen := some 0, extended := false, idleFailedA := false, idleFailedB := false }
      ∧ (enterListen cause inp s).bus.wakeCause = cause ∧ (enterListen cause inp s).bus.beaconTimer = some 0
      ∧ (enterListen cause inp s).road.inhibitA = s.road.inhibitA
      ∧ (enterListen cause inp s).road.inhibitB = s.road.inhibitB
      ∧ (enterListen cause inp s).road.lock = s.road.lock
      ∧ (enterListen cause inp s).wind.holdOff = s.wind.holdOff := by
  obtain ⟨before, inputs, bus, -, road, hold, -⟩ := listening_fields cause inp s
  obtain ⟨node, wire, inhibitA, inhibitB, lock, holdOff⟩ :=
    listenReadings_keeps (s := listening cause inp s) (by rw [inputs]; exact h)
  obtain ⟨-, -, timer, -, wake⟩ := wire_fields wire
  obtain ⟨due, since, -⟩ := startBeacons_fields cause s.bus
  rw [enterListen_eq, node, before, wake, timer, inhibitA, inhibitB, lock, holdOff, bus, road, hold]
  exact ⟨rfl, due, since, rfl, rfl, rfl, rfl⟩

/-! ### START -/

/-- The node as START has sampled its pins, before it decides (R1, R2). -/
def started (keep : Bool) (inp : Inputs) (s : State) : State :=
  let s := ((freshBlocks s).onNode Node.restarted).onNode (Node.recordCause keep)
  let s := (s.onInp fun _ => inp).onBus fun b => { b with err := .active }
  s.onNode fun n => { n with role := (decodeStraps inp).1, station := (decodeStraps inp).2.getD Config.noStation }

theorem enterStart_eq (keep : Bool) (inp : Inputs) (s : State) :
    enterStart keep inp s
      = if (decodeStraps inp).1 = .invalid then enterLockout .role (started keep inp s)
        else if (decodeStraps inp).2.isNone then enterLockout .index (started keep inp s)
        else if (started keep inp s).store.state = .locked then lockedDecision inp (started keep inp s)
        else (started keep inp s).onNode fun n => { n with mode := .setup } := rfl

/-- The record decision keeps role, station, start cause and inputs. -/
theorem lockedDecision_identity (inp : Inputs) {s : State} (hi : s.inp = inp) :
    (lockedDecision inp s).node.identity = s.node.identity ∧ (lockedDecision inp s).inp = inp := by
  unfold lockedDecision
  split
  · exact ⟨by rw [enterLockout_node]; rfl, by simp [hi]⟩
  · split
    · exact ⟨by rw [enterLockout_node]; rfl, by simp [hi]⟩
    · exact enterListen_identity ..

/-- START takes role and station from the straps, records its cause, and clears the table (R1, R2, R33). -/
theorem enterStart_identity (keep : Bool) (inp : Inputs) (s : State) :
    (enterStart keep inp s).node.identity
        = ((decodeStraps inp).1, (decodeStraps inp).2.getD 127,
            if keep then s.node.startCause else if s.node.supplyUp then .powerOn else .resetPin)
      ∧ (enterStart keep inp s).inp = inp ∧ (enterStart keep inp s).peers = [] := by
  rw [enterStart_eq]
  split
  · exact ⟨by rw [enterLockout_node]; rfl, by simp [started], by simp [started]; rfl⟩
  · split
    · exact ⟨by rw [enterLockout_node]; rfl, by simp [started], by simp [started]; rfl⟩
    · split
      · obtain ⟨id, inputs⟩ := lockedDecision_identity inp (s := started keep inp s) rfl
        exact ⟨id.trans rfl, inputs, by simp [started]; rfl⟩
      · exact ⟨rfl, rfl, rfl⟩

end Sys2Proof.Machine
end

section
/-! SUPPORT. START's decision, and with it O20 and O24. -/

namespace Sys2Proof.Machine

/-- What START decides from the straps and a record (R1 to R3): the node's mode, its lockout cause, and the entry to LISTEN. -/
def DecidesMode (inp : Inputs) (st : Store) (t : State) : Prop :=
  ((decodeStraps inp).1 = .invalid → t.node.mode = .lockout ∧ t.node.lockout = .role)
    ∧ ((decodeStraps inp).1 ≠ .invalid → (decodeStraps inp).2 = none → t.node.mode = .lockout ∧ t.node.lockout = .index)
    ∧ (∀ n ∈ (decodeStraps inp).2, (decodeStraps inp).1 ≠ .invalid
        → (st.locked = false → t.node.mode = .setup ∧ t.node.lockout = .none)
          ∧ (st.locked = true → st.crcOk = false → t.node.mode = .lockout ∧ t.node.lockout = .crc)
          ∧ (st.locked = true → st.crcOk = true → recordValid st (decodeStraps inp).1 n = false
              → t.node.mode = .lockout ∧ t.node.lockout = .field)
          ∧ (st.locked = true → st.crcOk = true → recordValid st (decodeStraps inp).1 n = true → overheats inp = false
              → t.node.mode = .listen ∧ t.node.listen = some 0 ∧ t.cal = readCal st
                ∧ t.bus.wakeCause = t.node.startCause))

theorem Store.state_locked_iff (st : Store) : st.state = .locked ↔ st.locked = true := by
  unfold Store.state
  split
  · simp [*]
  · split <;> simp [*]

/-- A lockout shows its mode and its cause. -/
theorem enterLockout_shows (cause : LockoutCause) (s : State) :
    (enterLockout cause s).node.mode = .lockout ∧ (enterLockout cause s).node.lockout = cause := by
  rw [enterLockout_node]
  exact ⟨rfl, rfl⟩

/-- A valid record is read, and LISTEN entered with the start cause in the beacon (R3, R11). -/
theorem lockedDecision_valid {inp : Inputs} {s : State} (hc : s.store.crcOk = true)
    (hv : recordValid s.store s.node.role s.node.station = true) :
    ∃ u, lockedDecision inp s = enterListen u.node.startCause inp u ∧ u.cal = readCal s.store := by
  simp only [lockedDecision, hc, hv, Bool.not_true, Bool.false_eq_true, if_false]
  exact ⟨_, rfl, rfl⟩

/-- On a driver that does not overheat the node then stands in LISTEN (R11). -/
theorem lockedDecision_listens {inp : Inputs} {s : State} (hc : s.store.crcOk = true)
    (hv : recordValid s.store s.node.role s.node.station = true) (h : overheats inp = false) :
    (lockedDecision inp s).node.mode = .listen ∧ (lockedDecision inp s).node.listen = some 0
      ∧ (lockedDecision inp s).cal = readCal s.store
      ∧ (lockedDecision inp s).bus.wakeCause = (lockedDecision inp s).node.startCause := by
  obtain ⟨u, decision, cal⟩ := lockedDecision_valid (inp := inp) hc hv
  obtain ⟨node, cause, -⟩ := enterListen_cool h u.node.startCause u
  rw [decision, node, cause]
  exact ⟨rfl, rfl, by simp [cal], rfl⟩

/-- START leaves the store alone and takes role and station from the straps (R1, R2). -/
theorem started_fields (keep : Bool) (inp : Inputs) (s : State) :
    (started keep inp s).store = s.store ∧ (started keep inp s).node.role = (decodeStraps inp).1
      ∧ (started keep inp s).node.station = (decodeStraps inp).2.getD Config.noStation := by
  simp [started]

/-- START decides by the cells and the lock of the store it finds (R1 to R3). -/
theorem enterStart_decides (keep : Bool) {inp : Inputs} {s : State} {st : Store} (hc : s.store.cells = st.cells)
    (hl : s.store.locked = st.locked) : DecidesMode inp st (enterStart keep inp s) := by
  obtain ⟨crcOk, cal, valid⟩ := record_congr hc
  refine ⟨fun role => ?_, fun role index => ?_, fun n hn role => ?_⟩
  · rw [enterStart_eq, if_pos role]
    exact enterLockout_shows ..
  · rw [enterStart_eq, if_neg role, index, Option.isNone_none, if_pos rfl]
    exact enterLockout_shows ..
  · have straps : (decodeStraps inp).2 = some n := hn
    obtain ⟨store, role', station⟩ := started_fields keep inp s
    have decision : enterStart keep inp s = if st.locked = true then lockedDecision inp (started keep inp s)
        else (started keep inp s).onNode fun n => { n with mode := .setup } := by
      rw [enterStart_eq, if_neg role, straps, Option.isNone_some, if_neg (by decide)]
      simp only [Store.state_locked_iff, store, hl]
    rw [straps, Option.getD_some] at station
    rw [← store] at crcOk cal valid
    have valid' : recordValid (started keep inp s).store (started keep inp s).node.role
        (started keep inp s).node.station = recordValid st (decodeStraps inp).1 n := by
      rw [valid, role', station]
    rw [decision]
    refine ⟨fun l => ?_, fun l c => ?_, fun l c v => ?_, fun l c v cool => ?_⟩
    · rw [if_neg (by simp [l])]
      exact ⟨rfl, rfl⟩
    · rw [if_pos l, lockedDecision, crcOk, c]
      exact enterLockout_shows ..
    · rw [if_pos l, lockedDecision, crcOk, c, valid', v]
      exact enterLockout_shows ..
    · obtain ⟨mode, window, read, cause⟩ := lockedDecision_listens (s := started keep inp s) (crcOk.trans c)
        (valid'.trans v) cool
      rw [if_pos l]
      exact ⟨mode, window, read.trans cal, cause⟩

/-- A programming that ends, on the bytes it programs and on the rest (R7). -/
theorem Store.program_bytes {st : Store} {a : Nat} {bytes : List Byte} (hp : st.prog = some (a, bytes))
    (hf : st.progFree = true) (x : Nat) :
    (∀ i < bytes.length, (st.program a bytes).written (a + i) = true
        ∧ some ((st.program a bytes).read (a + i)) = bytes[i]?)
      ∧ (x < a ∨ a + bytes.length ≤ x → (st.program a bytes).written x = st.written x
          ∧ (st.program a bytes).read x = st.read x) := by
  obtain ⟨inRange, -⟩ := (Store.progFree_iff hp).1 hf
  refine ⟨fun i hi => ?_, fun outside => ?_⟩
  · have found := Store.program_inside st a i bytes hi (by omega)
    rw [List.getElem?_eq_getElem hi] at found ⊢
    simp [Store.written, Store.read, found]
  · have same := Store.program_outside st a x bytes outside
    simp [Store.written, Store.read, same]

/-- In SETUP with CAL high a write of four unwritten bytes starts their programming (R6). -/
theorem takeWrite_starts {source : Nat} {w : CalWrite} {s : State} (hs : w.target.toNat = s.node.station)
    (hm : s.node.mode = .setup) (hoff : w.offset.toNat ≤ 252)
    (unwritten : s.store.firstWritten w.offset.toNat = none) :
    takeWrite source w true s
      = { s with store := { s.store with prog := some (w.offset.toNat, [w.d0, w.d1, w.d2, w.d3]) } } := by
  have low : ¬ 253 ≤ w.offset.toNat := by omega
  simp only [takeWrite, setupWrite, hs, hm, low, unwritten, ne_eq, not_true_eq_false, decide_true, Bool.and_self,
    if_false, if_true]
  rfl

/-- In SETUP with CAL high an OPEN record whose CRC matches is locked, and START begins (R9). -/
theorem takeLock_locks {source : Nat} {target : Byte} {inp : Inputs} {s : State} (hs : target.toNat = s.node.station)
    (hm : s.node.mode = .setup) (hc : inp.cal = true) (ho : s.store.state = .opened) (hcrc : s.store.crcOk = true) :
    takeLock source target inp s = enterStart true inp (s.onStore fun st => { st with locked := true }) := by
  simp [takeLock, setupLock, hs, hm, hc, ho, hcrc]

end Sys2Proof.Machine

open Sys2Proof Sys2Proof.Machine

/-- Settles O20: with no programming in progress START finds the cells and the lock as they were. -/
theorem startDecidesTheMode : Obligations.StartDecidesTheMode := by
  have chooses {inp : Inputs} {s u : State} {c : Instr} (hx : exec c s = .next (enterStart false inp u))
      (hc : u.store.cells = s.store.cells) (hl : u.store.locked = s.store.locked) :
      ∃ t, exec c s = .next t ∧ t.node.role = (decodeStraps inp).1
        ∧ t.node.station = (decodeStraps inp).2.getD 127
        ∧ t.node.startCause = (if u.node.supplyUp then .powerOn else .resetPin)
        ∧ t.store.cells = s.store.cells ∧ t.store.locked = s.store.locked ∧ t.peers = [] ∧ t.inp = inp
        ∧ DecidesMode inp s.store t := by
    obtain ⟨identity, inputs, peers⟩ := enterStart_identity false inp u
    obtain ⟨role, station, cause⟩ := by simpa only [Node.identity, Prod.mk.injEq] using identity
    obtain ⟨store, -⟩ := enterStart_frame false inp u
    exact ⟨_, hx, role, station, cause, by rw [store, hc], by rw [store, hl], peers, inputs,
      enterStart_decides false hc hl⟩
  refine ⟨fun inp s prog high => ?_, fun inp s _ low inRange => ?_⟩
  · have fresh := holdReset_eq prog
    refine chooses (u := (holdReset s).onNode fun n => { n with vbatLow := false, supplyUp := true }) ?_ ?_ ?_
    · have : (holdReset s).node.nrstLow = false := by
        rw [fresh]
        exact high
      simp [exec, execPowerOn, this]
    · rw [fresh]; rfl
    · rw [fresh]; rfl
  · exact chooses (u := s.onNode fun n => { n with nrstLow := false })
      (by simp [exec, execNrstHigh, low, inRange]) rfl rfl

/-- Settles O24: a write starts, `Store.program_bytes` says what its end leaves, and a lock goes through START. -/
theorem writesAndLocksTakeEffect : Obligations.WritesAndLocksTakeEffect := by
  refine ⟨fun source w s delivered mode target low unwritten => ?_, fun a bytes s hok prog four idle => ?_,
    fun source target inp s delivered station mode cal opened crcOk index straps role => ?_⟩
  · have taken : exec (.calibrationWrite source w true) s = .next (takeWrite source w true (receivedWhole s)) :=
      congrArg _ (receive_delivers delivered)
    rw [taken, takeWrite_starts (by simpa using target) (by simpa using mode) low (by simpa using unwritten)]
    simp
  · obtain ⟨-, free⟩ := Bool.and_eq_true_iff.1 hok
    have ends : exec .calibrationProgrammingDone s
        = .next (s.onStore fun st => { st.program a bytes with prog := none, held := [] }) := by
      simp [exec, execCalibrationProgrammingDone, prog, idle, takeHeld]
    have bytesOf := Store.program_bytes prog free
    rw [four] at bytesOf
    exact ⟨_, ends, rfl, rfl, by simp, (bytesOf 0).1, fun x => (bytesOf x).2⟩
  · have taken : exec (.calibrationLock source target inp) s = .next (takeLock source target inp (receivedWhole s)) :=
      congrArg _ (receive_delivers delivered)
    rw [takeLock_locks (by simpa using station) (by simpa using mode) cal (by simpa using opened) (by simpa using crcOk)]
      at taken
    generalize hu : (receivedWhole s).onStore (fun st => { st with locked := true }) = u at taken
    have store : u.store = { s.store with locked := true } := by simp [← hu]
    have node : u.node = s.node := by simp [← hu]
    obtain ⟨identity, -⟩ := enterStart_identity true inp u
    obtain ⟨role', station', cause⟩ := by simpa only [Node.identity, Prod.mk.injEq] using identity
    obtain ⟨kept, -⟩ := enterStart_frame true inp u
    obtain ⟨-, -, decides⟩ := enterStart_decides true (inp := inp) (congrArg Store.cells store)
      (congrArg Store.locked store)
    obtain ⟨-, -, field, listens⟩ := decides _ index (straps ▸ role)
    obtain ⟨crcOk', cal', valid⟩ := record_congr (st := s.store) (st' := { s.store with locked := true }) rfl
    rw [crcOk', valid, straps] at field
    rw [crcOk', valid, straps, cal'] at listens
    refine ⟨_, taken, by rw [kept, store], by rw [kept, store], by rw [cause, if_pos trivial, node], role'.trans straps,
      by rw [station', index, Option.getD_some], fun invalid => field rfl crcOk invalid, fun ok cool => ?_⟩
    obtain ⟨listen, -, read, -⟩ := listens rfl crcOk ok cool
    exact ⟨listen, read⟩

end

section
/-! SUPPORT. A node whose channels are at rest: what its engines, its plan loop and its idle test leave (R68 to R71). -/

namespace Sys2Proof.Machine

/-- Neither channel record carries an order. -/
def State.quiet (s : State) : Prop := s.chA.carries = false ∧ s.chB.carries = false

/-- A channel without its duty, its role wait and its accumulator. -/
def Channel.core (c : Channel) : Channel := { c with roleWait := false, applied := 0, acc := 0 }

/-- A state without what its engines keep up to date while no channel carries an order: duties, role waits, accumulators,
the duty step, the square unit and the low-supply timer. -/
def State.core (s : State) : State :=
  { s with chA := s.chA.core, chB := s.chB.core, step := none, square := .fresh, supply := { s.supply with low := none } }

theorem State.core_fields {s t : State} (h : t.core = s.core) :
    t.node = s.node ∧ t.store = s.store ∧ t.cal = s.cal ∧ t.inp = s.inp ∧ t.bus = s.bus ∧ t.peers = s.peers
      ∧ t.orders = s.orders ∧ t.level = s.level ∧ t.wind = s.wind ∧ t.stop = s.stop ∧ t.road = s.road
      ∧ t.chA.core = s.chA.core ∧ t.chB.core = s.chB.core
      ∧ { t.supply with low := none } = { s.supply with low := none } := by
  injection h with node store cal inp bus peers orders chA chB _ supply level _ wind stop road
  exact ⟨node, store, cal, inp, bus, peers, orders, level, wind, stop, road, chA, chB, supply⟩

theorem Channel.core_fields {c d : Channel} (h : d.core = c.core) :
    d.act = c.act ∧ d.stand = c.stand ∧ d.order = c.order := by
  have act : d.core.act = c.core.act := by rw [h]
  have stand : d.core.stand = c.core.stand := by rw [h]
  have order : d.core.order = c.core.order := by rw [h]
  exact ⟨act, stand, order⟩

theorem State.quiet_of_core {s t : State} (h : t.core = s.core) (hq : s.quiet) : t.quiet := by
  obtain ⟨-, -, -, -, -, -, -, -, -, -, -, hA, hB, -⟩ := State.core_fields h
  exact ⟨(Channel.carries_congr (Channel.core_fields hA).1).trans hq.1,
    (Channel.carries_congr (Channel.core_fields hB).1).trans hq.2⟩

/-- A channel that carries no order neither drives nor waits. -/
theorem Channel.not_carries {c : Channel} (h : c.carries = false) : c.act ≠ .driving ∧ c.act ≠ .waiting := by
  simp only [Channel.carries, Bool.or_eq_false_iff, decide_eq_false_iff_not] at h
  obtain ⟨⟨waiting, driving⟩, -⟩ := h
  exact ⟨driving, waiting⟩

theorem State.quiet.chan {s : State} (h : s.quiet) : ∀ ch, (s.chan ch).carries = false
  | .a => h.1
  | .b => h.2

theorem State.quiet.none_carries {s : State} (h : s.quiet) : s.anyCarries = false ∧ s.anyDriving = false := by
  have still (ch : ChanId) := Channel.not_carries (h.chan ch)
  constructor
  · simp [State.anyCarries, h.chan]
  · simp [State.anyDriving, still]

/-- Equal stands are the same places. -/
theorem samePlaces_of_stand {s t : State} (h : ∀ ch, (t.chan ch).stand = (s.chan ch).stand) : s.samePlaces t := by
  have fields {c d : Channel} (e : d.stand = c.stand) :
      d.count = c.count ∧ d.cls = c.cls ∧ d.homeClosed = c.homeClosed ∧ d.outClosed = c.outClosed := by
    simpa [Channel.stand] using e
  exact ⟨fields (h .a), fields (h .b)⟩

/-- What is kept holds the stands. -/
theorem stand_of_kept {s t : State} (h : t.kept = s.kept) : ∀ ch, (t.chan ch).stand = (s.chan ch).stand
  | .a => congrArg Kept.standA h
  | .b => congrArg Kept.standB h

/-! ### The engines -/

theorem squareTest_core (s : State) : (squareTest s).core = s.core := by
  unfold squareTest
  (repeat' split) <;> rfl

theorem updateWaits_core (s : State) : (updateWaits s).core = s.core := rfl

theorem rackUpdate_core (s : State) : (rackUpdate s).core = s.core := by
  unfold rackUpdate
  split <;> rfl

theorem lowUpdate_core (s : State) : (lowUpdate s).core = s.core := rfl

theorem closeStep_core (s : State) : (closeStep s).core = s.core := by
  unfold closeStep
  split
  · rfl
  · split
    · rfl
    · unfold addAcc
      dsimp only
      split <;> rfl

/-- A channel at rest has nothing to yield, and a fall of its duty leaves 0. -/
theorem Channel.at_rest {c : Channel} (h : c.carries = false) (n : Nat) :
    yieldChan n c = c ∧ (c.lower n).core = c.core := by
  obtain ⟨still, -⟩ := Channel.not_carries h
  simp [yieldChan, Channel.lower, still, Channel.core]

theorem yieldAll_core {s : State} (h : s.quiet) : (yieldAll s).core = s.core := by
  have same : (s.onChA (yieldChan s.supply.cap)).onChB (yieldChan s.supply.cap) = s := by
    simp only [State.onChA, State.onChB, (Channel.at_rest h.1 _).1, (Channel.at_rest h.2 _).1]
  have quiet := State.quiet_of_core (closeStep_core s) h
  unfold yieldAll
  dsimp only
  rw [same, accCheck, quiet.none_carries.1, Bool.false_and, if_neg Bool.false_ne_true, closeStep_core]

theorem tryDrive_quiet {s : State} (h : s.quiet) (ch : ChanId) : tryDrive ch s = s := by
  have idle := (Channel.not_carries (h.chan ch)).2
  simp [tryDrive, State.mayDrive, idle]

theorem engage_core {s : State} (h : s.quiet) : (engage s).core = s.core := by
  have yielded := yieldAll_core h
  have quiet := State.quiet_of_core yielded h
  have still : enteredDriving (yieldAll s) (yieldAll s) = false := by simp [enteredDriving]
  unfold engage
  dsimp only
  rw [tryDrive_quiet quiet, tryDrive_quiet quiet, ite_self, afterDrive, still, if_neg Bool.false_ne_true, beginSteps,
    quiet.none_carries.2, Bool.and_false, if_neg Bool.false_ne_true, yielded]

theorem recompose_core {s : State} (h : s.quiet) : (recompose s).core = s.core := by
  simp only [recompose, State.core, State.onChA, State.onChB, (Channel.at_rest h.1 _).2, (Channel.at_rest h.2 _).2]

/-- The engines of a node at rest leave its core. -/
theorem runEngines_core {s : State} (h : s.quiet) : (runEngines s).core = s.core := by
  have waits : (updateWaits (squareTest s)).core = s.core := (updateWaits_core _).trans (squareTest_core s)
  have engaged := (engage_core (State.quiet_of_core waits h)).trans waits
  have composed := (recompose_core (State.quiet_of_core engaged h)).trans engaged
  exact (lowUpdate_core _).trans ((rackUpdate_core _).trans composed)

/-- What follows a change of the inputs leaves the core of a node at rest. -/
theorem settle_core {s : State} (h : s.quiet) : (settle s).core = s.core := by
  have run := runEngines_core h
  obtain ⟨-, -, -, -, -, -, -, -, -, -, -, hA, -⟩ := State.core_fields run
  have stand : (runEngines s).chA.cls = s.chA.cls := congrArg (fun p => p.2.1) (Channel.core_fields hA).2.1
  unfold settle
  split
  · rw [leftStowed, stand, if_neg (by simp), run]
  · rfl

/-! ### Plan loop and idle test -/

/-- Without a cursor the plan loop has nothing to do (R64). -/
theorem planLoop_none {s : State} (h : s.orders.cursor = none) (n : Nat) : planLoop n s = s := by
  cases n with
  | zero => rfl
  | succ n => simp [planLoop, retest, State.partFailed, State.stepDone, h]

/-- A node at rest without a cursor is left as it is, or goes to WATCH (R166). -/
theorem conclude_quiet {s : State} (h : s.quiet) (hc : s.orders.cursor = none) :
    ∃ t, t.core = s.core ∧ (conclude s = t ∨ s.node.mode = .run ∧ conclude s = enterWatch t) := by
  have settled := settle_core h
  obtain ⟨-, -, -, -, -, -, orders, -⟩ := State.core_fields settled
  refine ⟨settle s, settled, ?_⟩
  unfold conclude
  split
  · rename_i run
    rw [planLoop_none (by rw [orders]; exact hc), idleTest]
    split
    · exact .inr ⟨run, rfl⟩
    · exact .inl rfl
  · exact .inl rfl

/-- An entry to WATCH keeps activities, places, orders and notices (R166). -/
theorem enterWatch_keeps (s : State) :
    (enterWatch s).node = { s.node with mode := .watch } ∧ (enterWatch s).bus.notices = s.bus.notices
      ∧ (enterWatch s).orders = { s.orders with idleReached := false }
      ∧ (enterWatch s).chA = { s.chA with coast := none } ∧ (enterWatch s).chB = { s.chB with coast := none } := by
  simp [enterWatch, stopDwell, closeCoasts, Bus.unlive]

/-- What every change is followed by leaves a node at rest its orders, claim, faults, notices, activities and places. -/
theorem conclude_rests {s : State} (h : s.quiet) (hc : s.orders.cursor = none) :
    (conclude s).orders.cur = s.orders.cur ∧ (conclude s).supply.claim = s.supply.claim
      ∧ (conclude s).stop = s.stop ∧ (conclude s).bus.notices = s.bus.notices
      ∧ (∀ ch, ((conclude s).chan ch).act = (s.chan ch).act ∧ ((conclude s).chan ch).stand = (s.chan ch).stand)
      ∧ (conclude s).node.role = s.node.role ∧ (conclude s).node.station = s.node.station := by
  obtain ⟨t, core, ends⟩ := conclude_quiet h hc
  obtain ⟨node, -, -, -, bus, -, orders, -, -, stop, -, hA, hB, supply⟩ := State.core_fields core
  obtain ⟨actA, standA, -⟩ := Channel.core_fields hA
  obtain ⟨actB, standB, -⟩ := Channel.core_fields hB
  have claim : t.supply.claim = s.supply.claim := by
    injection supply
  rcases ends with same | ⟨-, watch⟩
  · rw [same]
    refine ⟨by rw [orders], claim, stop, by rw [bus], fun ch => ?_, by rw [node], by rw [node]⟩
    cases ch
    · exact ⟨actA, standA⟩
    · exact ⟨actB, standB⟩
  · obtain ⟨node', notices, orders', chA, chB⟩ := enterWatch_keeps t
    rw [watch]
    refine ⟨by rw [orders', orders], by simp [claim], by simp [stop], by rw [notices, bus], fun ch => ?_,
      by rw [node', node], by rw [node', node]⟩
    cases ch
    · exact ⟨(congrArg Channel.act chA).trans actA, (congrArg Channel.stand chA).trans standA⟩
    · exact ⟨(congrArg Channel.act chB).trans actB, (congrArg Channel.stand chB).trans standB⟩

end Sys2Proof.Machine
end

section
/-! SUPPORT. A halt of the node, and DUPLICATE (R17, R71). -/

namespace Sys2Proof.Machine

/-! ### A halt -/

/-- The end of an order sends a RELEASE, and queues no notice (R29). -/
theorem finishOrder_notices (how : EndHow) (s : State) : (finishOrder how s).bus.notices = s.bus.notices := by
  have release (u : State) : (releaseClaim u).bus.notices = u.bus.notices := by
    unfold releaseClaim
    split
    · rfl
    · simp [clearClaim, Bus.unlive]
  have settled (u : State) : (settleClaim u).bus.notices = u.bus.notices := by
    unfold settleClaim
    split
    · rfl
    · exact release u
  unfold finishOrder
  split <;> simp [settled]

@[simp] theorem haltNode_notices (r : HaltReason) (s : State) : (haltNode r s).bus.notices = s.bus.notices := by
  simp [haltNode, finishOrder_notices]

/-- A halt leaves no cursor where none stood. -/
theorem haltNode_cursor {s : State} (h : s.orders.cursor = none) (r : HaltReason) :
    (haltNode r s).orders.cursor = none := by
  unfold haltNode finishOrder
  split <;> simp [h]

/-- After a halt no channel carries an order. -/
theorem haltNode_quiet (r : HaltReason) (s : State) : (haltNode r s).quiet := by
  have rests (ch : ChanId) : ((haltNode r s).chan ch).carries = false := by
    obtain ⟨act, -⟩ := haltNode_chan r ch s
    unfold Channel.carries
    rw [act]
    split
    · rfl
    · rename_i still
      simpa [Channel.carries] using still
  exact ⟨rests .a, rests .b⟩

@[simp] theorem Channel.blankOrder_act (c : Channel) : c.blankOrder.act = c.act := by
  unfold Channel.blankOrder
  split <;> rfl

@[simp] theorem blankOrders_act (ch : ChanId) (s : State) : ((blankOrders s).chan ch).act = (s.chan ch).act := by
  cases ch
  · exact s.chA.blankOrder_act
  · exact s.chB.blankOrder_act

/-- The state of a node that is about to conclude a DUPLICATE: halted, at rest, with the fault listed and its notice
queued (R17). -/
structure Duplicated (s u : State) : Prop where
  quiet : u.quiet
  cursor : u.orders.cursor = none
  cur : u.orders.cur = none
  claim : u.supply.claim = none
  listed : u.hasFault .duplicate = true
  act : ∀ ch, (u.chan ch).act = if (s.chan ch).carries then .halted else (s.chan ch).act
  node : u.node = s.node
  kept : u.kept = s.kept
  notice : s.bus.notices.length < 8 → ∃ n ∈ u.bus.notices, n.code = .fault .duplicate ∧ n.chan = .node

/-- A report changes drive and STOP CALL, and queues no notice. -/
theorem raiseFault_notices (k : FaultKind) (ch : NChan) (d : Half) (s : State) :
    (raiseFault k ch d s).bus.notices = s.bus.notices := by
  unfold raiseFault stopReport
  dsimp only
  split <;> simp

/-- With DUPLICATE clear and no plan in hand, the node is halted and the fault noticed before what follows (R17). -/
theorem setDuplicate_raises {s : State} (clear : s.hasFault .duplicate = false) (hc : s.orders.cursor = none) :
    ∃ u, setDuplicate s = conclude u ∧ Duplicated s u := by
  obtain ⟨cur, -, claim⟩ := haltNode_ends .duplicate s
  have cursor := haltNode_cursor hc .duplicate
  have act (ch : ChanId) := (haltNode_chan .duplicate ch s).1
  have rests := haltNode_quiet .duplicate s
  have kept := haltNode_kept .duplicate s
  have node : (haltNode .duplicate s).node = s.node := by simp
  have notices := haltNode_notices .duplicate s
  have opens : setDuplicate s = conclude (noticeFault .duplicate .node 0 none
      (setPart .failed (levelTimers (blankOrders (haltNode .duplicate s)))).freeDetail
      (drawFree (setPart .failed (levelTimers (blankOrders (haltNode .duplicate s)))))) := by
    rw [setDuplicate, clear, if_neg Bool.false_ne_true]
  generalize haltNode .duplicate s = h at *
  generalize hd : (setPart .failed (levelTimers (blankOrders h))).freeDetail = d at opens
  generalize hv : drawFree (setPart .failed (levelTimers (blankOrders h))) = v at opens
  have chan (ch : ChanId) : (v.chan ch).act = (h.chan ch).act := by
    rw [← blankOrders_act ch h]
    cases ch <;> simp [← hv]
  refine ⟨_, opens, ⟨?_, ?_, ?_, ?_, (noticeFault_listed ..).2, fun ch => ?_, ?_, ?_, fun room => ?_⟩⟩
  · have carries (ch : ChanId) := (Channel.carries_congr (chan ch)).trans (rests.chan ch)
    exact ⟨by simpa using carries .a, by simpa using carries .b⟩
  · simp [← hv, setPart, cursor]
  · simp [← hv, setPart, cur]
  · simp [← hv, claim]
  · rw [← act ch, ← chan ch]
    cases ch <;> simp
  · simp [← hv, node]
  · simp [← hv, kept, blankOrders, levelTimers]
  · have room' : v.bus.notices.length < 8 := by simpa [← hv, notices] using room
    rw [noticeFault, raiseFault_notices, notice_room room']
    exact ⟨_, List.mem_append_right _ (List.mem_singleton.2 rfl), rfl, rfl⟩

end Sys2Proof.Machine

open Sys2Proof Sys2Proof.Machine

/-- Settles O29: `setDuplicate_raises` leaves the node at rest, and `conclude_rests` says that it stays so. -/
theorem ownStationBeaconSetsDuplicate : Obligations.OwnStationBeaconSetsDuplicate := by
  have taken {source : Nat} {d : Data8} {s : State} (delivered : s.delivers .postureBeacon source = true)
      (active : s.active = true) (own : source = s.node.station) :
      exec (.postureBeacon source d) s = .next (setDuplicate (receivedWhole s)) := by
    have active' : (receivedWhole s).active = true := by simpa [State.active] using active
    have own' : source = (receivedWhole s).node.station := by simpa using own
    have opens : exec (.postureBeacon source d) s = .next (takeBeacon source d (receivedWhole s)) :=
      congrArg _ (receive_delivers delivered)
    rw [opens, takeBeacon, active', Bool.not_true, if_neg Bool.false_ne_true, if_pos own']
  constructor
  · intro source d s delivered active own clear plan
    have clear' : (receivedWhole s).hasFault .duplicate = false := by simpa [State.hasFault] using clear
    have noCursor : (receivedWhole s).orders.cursor = none := by simpa [State.noPlan] using plan
    have received (ch : ChanId) : (receivedWhole s).chan ch = s.chan ch := by cases ch <;> simp
    obtain ⟨u, ends, raised⟩ := setDuplicate_raises clear' noCursor
    obtain ⟨cur, claim, stop, notices, chan, role, station⟩ := conclude_rests raised.quiet raised.cursor
    refine ⟨_, taken delivered active own, ?_⟩
    rw [ends]
    refine ⟨?_, fun ch _ => ?_, claim.trans raised.claim, cur.trans raised.cur, ?_, ?_, ?_, fun room => ?_⟩
    · rw [State.hasFault, stop]
      exact raised.listed
    · rw [(chan ch).1, raised.act, received ch]
    · rw [← ends]
      simp
    · rw [← ends]
      exact ⟨by simp, by simp, by simp [ends, role, raised.node], by simp [ends, station, raised.node]⟩
    · exact samePlaces_of_stand fun ch =>
        ((chan ch).2.trans (stand_of_kept raised.kept ch)).trans (congrArg Channel.stand (received ch))
    · rw [notices]
      exact raised.notice (by simpa using room)
  · intro source d s delivered active own listed
    have listed' : (receivedWhole s).hasFault .duplicate = true := by simpa [State.hasFault] using listed
    rw [taken delivered active own, setDuplicate, if_pos listed']
end

section
/-! SUPPORT. A node with no order, claim, plan or press, as it goes through the readings of an entry to LISTEN (R11, R12). -/

namespace Sys2Proof.Machine

/-- No order, hold, cursor, press, quiet or claim; both channels IDLE; no DUPLICATE; no session that waits for its foot. -/
structure Resting (s : State) : Prop where
  actA : s.chA.act = .idle
  actB : s.chB.act = .idle
  cur : s.orders.cur = none
  hold : s.orders.hold = none
  cursor : s.orders.cursor = none
  presses : s.orders.presses = []
  quiet : s.orders.quiet = none
  claim : s.supply.claim = none
  faults : ∀ f ∈ s.stop.faults, f.kind ≠ .duplicate
  phase : s.level.phase ≠ .footing

/-- What leaves activities, orders and claim alone leaves a node resting, where no DUPLICATE joins and no session begins. -/
theorem Resting.of_same {s t : State} (h : Resting s) (actA : t.chA.act = s.chA.act) (actB : t.chB.act = s.chB.act)
    (orders : t.orders = s.orders) (claim : t.supply.claim = s.supply.claim)
    (faults : ∀ f ∈ t.stop.faults, f ∈ s.stop.faults ∨ f.kind ≠ .duplicate)
    (phase : t.level.phase = s.level.phase ∨ t.level.phase ≠ .footing) : Resting t where
  actA := actA.trans h.actA
  actB := actB.trans h.actB
  cur := by rw [orders]; exact h.cur
  hold := by rw [orders]; exact h.hold
  cursor := by rw [orders]; exact h.cursor
  presses := by rw [orders]; exact h.presses
  quiet := by rw [orders]; exact h.quiet
  claim := claim.trans h.claim
  faults := fun f hf => (faults f hf).elim (h.faults f) id
  phase := phase.elim (fun same => by rw [same]; exact h.phase) id

/-- The same, where orders, claim, faults and phase are all left alone. -/
theorem Resting.of_frame {s t : State} (h : Resting s) (actA : t.chA.act = s.chA.act) (actB : t.chB.act = s.chB.act)
    (orders : t.orders = s.orders) (claim : t.supply.claim = s.supply.claim) (stop : t.stop.faults = s.stop.faults)
    (phase : t.level.phase = s.level.phase) : Resting t :=
  h.of_same actA actB orders claim (fun _ hf => .inl (stop ▸ hf)) (.inl phase)

theorem Resting.atRest {s : State} (h : Resting s) : s.quiet := by
  simp [State.quiet, Channel.carries, h.actA, h.actB]

/-! ### Ends and halts with nothing to end -/

theorem Channel.restIfCarrying_still {c : Channel} (h : c.carries = false) (a : Activity) : c.restIfCarrying a = c := by
  simp [Channel.restIfCarrying, h]

theorem closeStep_resting {s : State} (h : Resting s) : Resting (closeStep s) := by
  obtain ⟨-, -, -, -, -, -, orders, level, -, stop, -, hA, hB, supply⟩ := State.core_fields (closeStep_core s)
  injection supply with claim
  exact h.of_frame (Channel.core_fields hA).1 (Channel.core_fields hB).1 orders claim (by rw [stop]) (by rw [level])

theorem settleClaim_none {s : State} (h : s.supply.claim = none) : settleClaim s = s := by
  simp [settleClaim, releaseClaim, h]

theorem finishOrder_resting {s : State} (h : Resting s) (how : EndHow) : finishOrder how s = s := by
  have same : s.onOrders (fun u => { u with hold := none }) = s := by
    obtain ⟨-, -, -, hold, -⟩ := h
    simp only [State.onOrders, ← hold]
  rw [finishOrder, h.cur]
  dsimp only
  rw [same, settleClaim_none h.claim]

theorem endPlan_none {s : State} (h : s.orders.cursor = none) (o : PlanOutcome) : endPlan o s = s := by
  simp [endPlan, h]

theorem restAll_resting {s : State} (h : Resting s) (a : Activity) : Resting (restAll a s) := by
  obtain ⟨carriesA, carriesB⟩ := h.atRest
  have same : (s.onChA (Channel.restIfCarrying a)).onChB (Channel.restIfCarrying a) = s := by
    simp only [State.onChA, State.onChB, Channel.restIfCarrying_still carriesA, Channel.restIfCarrying_still carriesB]
  rw [restAll, same]
  exact closeStep_resting h

theorem clearLevel_resting {s : State} (h : Resting s) : Resting (clearLevel s) :=
  h.of_same rfl rfl rfl rfl (fun _ => .inl) (.inr (by simp [clearLevel, Level.cleared]))

theorem clearSession_resting {s : State} (h : Resting s) : Resting (clearSession s) := by
  unfold clearSession
  split
  · exact clearLevel_resting h
  · exact h

theorem haltNode_resting {s : State} (h : Resting s) (r : HaltReason) : Resting (haltNode r s) := by
  have rests := clearSession_resting (restAll_resting h .halted)
  rw [haltNode, finishOrder_resting rests]
  exact rests

theorem stopLeg_resting {s : State} (h : Resting s) : Resting (stopLeg s) := by
  have rests : Resting (closeStep
      ((s.onChA (Channel.restIfCarrying .idle)).onLevel fun l => { l with leg := none, request := 0 })) := by
    refine closeStep_resting (h.of_frame ?_ rfl rfl rfl rfl rfl)
    exact congrArg Channel.act (Channel.restIfCarrying_still h.atRest.1 .idle)
  unfold stopLeg
  split
  · exact h
  · rw [settleClaim_none rests.claim]
    exact rests.of_frame (by simp) (by simp) (by simp) (by simp) (by simp) (by simp)

/-! ### The readings -/

theorem dropFaults_resting {s : State} (h : Resting s) (p : ActiveFault → Bool) : Resting (dropFaults p s) :=
  h.of_same rfl rfl rfl rfl (fun _ hf => .inl (List.mem_filter.1 hf).1) (.inl rfl)

theorem passArisen_resting {s : State} (h : Resting s) (isns : ChanId → Current) (sampled : ActiveFault → Bool) :
    Resting (passArisen isns sampled s) := dropFaults_resting h _

theorem notice_resting {s : State} (h : Resting s) (code : NoticeCode) (chan : NChan) (requester : Nat)
    (order : Option Order) (detail : Half) : Resting (notice code chan requester order detail s) :=
  h.of_frame (by simp) (by simp) (by simp) (by simp) (by simp) (by simp)

theorem sensorFault_resting {s : State} (h : Resting s) (d : Half) : Resting (sensorFault d s) := by
  have listed := (noticeFault_listed .sensor .node 0 none d s).1
  refine h.of_same (by simp [sensorFault]) (by simp [sensorFault]) (by simp [sensorFault]) (by simp [sensorFault])
    (fun f hf => ?_) (.inl (by simp [sensorFault]))
  rw [sensorFault, listed, joinFault] at hf
  rcases List.mem_append.1 hf with old | new
  · exact .inl ((List.mem_filter.1 old).1)
  · exact .inr (by simp [List.mem_singleton.1 new])

/-- A channel's switch levels and place change nothing that rests. -/
theorem placeChan_resting {s : State} (h : Resting s) (ch : ChanId) (n : Nat) : Resting (placeChan ch n s) := by
  have placed : Resting (s.onChan ch (Channel.place n (s.cal.chan ch).pMax)) := by
    cases ch <;> exact h.of_frame rfl rfl rfl rfl rfl rfl
  unfold placeChan
  dsimp only
  split
  · exact (dropFaults_resting placed _).of_frame rfl rfl rfl rfl rfl rfl
  · exact placed.of_frame rfl rfl rfl rfl rfl rfl

theorem snapHome_resting {s : State} (h : Resting s) (ch : ChanId) : Resting (snapHome ch s) := by
  unfold snapHome
  dsimp only
  split
  · exact (placeChan_resting h ch 0).of_frame rfl rfl rfl rfl rfl rfl
  · exact placeChan_resting h ch 0

theorem readSwitches_resting {s : State} (h : Resting s) (ch : ChanId) : Resting (readSwitches s ch) := by
  have sampled (home out : Bool) :
      Resting (s.onChan ch fun c => { c with homeClosed := home, outClosed := out }) := by
    cases ch <;> exact h.of_frame rfl rfl rfl rfl rfl rfl
  unfold readSwitches
  dsimp only
  split
  · exact snapHome_resting (sampled _ _) ch
  · split
    · exact placeChan_resting (sampled _ _) ch _
    · exact sampled _ _

theorem testFooting_resting {s : State} (h : Resting s) : testFooting s = s := by
  simp [testFooting, h.phase]

theorem footContact_resting {s : State} (h : Resting s) : Resting (footContact s) := by
  have contact : Resting (s.onLevel fun l => { l with contact := true }) := h.of_frame rfl rfl rfl rfl rfl rfl
  unfold footContact
  dsimp only
  split
  · have timed : Resting ((stopLeg (s.onLevel fun l => { l with contact := true })).onLevel fun l =>
        { l with footing := some 0 }) := (stopLeg_resting contact).of_frame rfl rfl rfl rfl rfl rfl
    rw [testFooting_resting timed]
    exact timed
  · exact (stopLeg_resting contact).of_same rfl rfl rfl rfl (fun _ => .inl) (.inr (by simp [enterSettling]))
  · rw [testFooting_resting contact]
    exact contact

theorem readFoot_resting {s : State} (h : Resting s) : Resting (readFoot s) := by
  have sampled (closed : Bool) : Resting (s.onLevel fun l => { l with footClosed := closed }) :=
    h.of_frame rfl rfl rfl rfl rfl rfl
  unfold readFoot
  dsimp only
  split
  · split
    · exact footContact_resting (sampled _)
    · exact sampled _
  · exact h

theorem readStop_resting {s : State} (h : Resting s) : Resting (readStop s) := by
  have sensed (low : Bool) : Resting (s.onStop fun u => { u with sensedLow := low }) :=
    h.of_frame rfl rfl rfl rfl rfl rfl
  unfold readStop
  split
  · have halted := haltNode_resting (sensed true) .stopLine
    have spent : Resting (spendPresses (haltNode .stopLine (s.onStop fun u => { u with sensedLow := true }))) :=
      { halted with presses := by simp [spendPresses, halted.presses, spendAll] }
    rw [stopFall, haltAll, endPlan_none spent.cursor]
    exact spent
  · exact sensed false

theorem roadHalt_resting {s : State} (h : Resting s) : Resting (roadHalt s) := by
  unfold roadHalt
  split
  · have rests := clearLevel_resting (restAll_resting h .halted)
    rw [finishOrder_resting rests]
    exact rests
  · split
    · exact clearLevel_resting h
    · exact h

theorem roadPlan_resting {s : State} (h : Resting s) : roadPlan s = s := by
  simp [roadPlan, h.cur, endPlan_none h.cursor]

theorem roadAlarm_resting {s : State} (h : Resting s) : Resting (roadAlarm s) := by
  have alarm : Resting (updateAlarm s) := h.of_frame rfl rfl rfl rfl rfl rfl
  unfold roadAlarm
  dsimp only
  split
  · exact notice_resting alarm ..
  · exact alarm

/-- Outside RUN a release begins no stow (R160). -/
theorem roadRelease_resting {s : State} (h : Resting s) (hm : s.node.mode ≠ .run) : Resting (roadRelease s) := by
  have released : Resting (s.onRoad fun r => { r with park := some false }) := h.of_frame rfl rfl rfl rfl rfl rfl
  have halted := roadHalt_resting released
  unfold roadRelease
  dsimp only
  rw [roadPlan_resting halted, if_neg (by simp [hm])]
  exact (roadAlarm_resting halted).of_frame rfl rfl rfl rfl rfl rfl

theorem parkAsserted_resting {s : State} (h : Resting s) : Resting (parkAsserted s) := by
  have same : cancelStow (s.onRoad fun r => { r with park := some true })
      = s.onRoad fun r => { r with park := some true } := by
    simp [cancelStow, h.cur]
  rw [parkAsserted, same]
  exact h.of_frame rfl rfl rfl rfl rfl rfl

theorem readPark_resting {s : State} (h : Resting s) (hm : s.node.mode ≠ .run) : Resting (readPark s) := by
  unfold readPark
  split
  · exact h.of_frame rfl rfl rfl rfl rfl rfl
  · exact roadRelease_resting h hm
  · exact parkAsserted_resting h
  · exact h

/-- The checks of each channel in turn leave a node resting, where each does. -/
theorem foldl_resting {f : State → ChanId → State} (hf : ∀ s ch, Resting s → Resting (f s ch)) (l : List ChanId)
    {s : State} (h : Resting s) : Resting (l.foldl f s) := by
  induction l generalizing s with
  | nil => exact h
  | cons ch l ih => exact ih (hf s ch h)

theorem checkSenses_resting {s : State} (h : Resting s) : Resting (checkSenses s) := by
  unfold checkSenses
  split
  · refine foldl_resting (fun u ch hu => ?_) _ h
    unfold checkSense
    split
    · exact sensorFault_resting hu _
    · exact hu
  · exact dropFaults_resting h _

theorem checkPairs_resting {s : State} (h : Resting s) : Resting (checkPairs s) := by
  unfold checkPairs
  split
  · refine foldl_resting (fun u ch hu => ?_) _ h
    unfold checkPair
    split
    · exact sensorFault_resting hu _
    · exact hu
  · exact dropFaults_resting h _

theorem checkTemp_resting {s : State} (h : Resting s) (cool : overheats s.inp = false) : Resting (checkTemp s) := by
  unfold checkTemp
  dsimp only
  split
  · exact sensorFault_resting h _
  · rename_i sound
    have sound' : tempSound s.inp.temp = true := by simpa using sound
    rw [if_neg (by simpa [overheats, sound'] using cool)]
    exact dropFaults_resting h _

/-- The readings of an entry to LISTEN leave a node resting, on a driver that does not overheat. -/
theorem listenReadings_resting {s : State} (h : Resting s) (hm : s.node.mode ≠ .run) (cool : overheats s.inp = false) :
    Resting (listenReadings s) := by
  have read : Resting (readDroop s) := h.of_frame rfl rfl rfl rfl rfl rfl
  have switches := foldl_resting (fun _ ch hu => readSwitches_resting hu ch) s.chanIds read
  have passed := passArisen_resting switches s.inp.isns fun _ => true
  have line := readStop_resting (readFoot_resting passed)
  obtain ⟨-, inp, -⟩ := beforeTemp_frame s
  have park := readPark_resting line (by rcases s.chanIds_cases with h | h <;> simpa [h, passArisen] using hm)
  exact checkTemp_resting (checkPairs_resting (checkSenses_resting park)) (by rw [← inp] at cool; exact cool)

theorem listening_phase (cause : WakeCause) (inp : Inputs) (s : State) :
    (listening cause inp s).level.phase = s.level.phase := by
  have tilt (u : State) : (startTiltCheck (stopDwell u)).level.phase = u.level.phase := by
    unfold startTiltCheck
    split <;> rfl
  unfold listening
  dsimp only
  split <;> exact tilt _

/-- So does the entry itself. -/
theorem enterListen_resting {s : State} (h : Resting s) {inp : Inputs} (cool : overheats inp = false) (cause : WakeCause) :
    Resting (enterListen cause inp s) := by
  obtain ⟨node, inputs, -, orders, -, -, chA, chB, supply, stop⟩ := listening_fields cause inp s
  have idle : Resting (s.onOrders fun u => { u with idleReached := false }) := { h with }
  have begun : Resting (listening cause inp s) := idle.of_frame (by simp [chA]) (by simp [chB]) (by simp [orders])
    (by simp [supply]) (by simp [stop]) (by simp [listening_phase])
  rw [enterListen_eq]
  exact listenReadings_resting begun (by simp [node]) (by rw [inputs]; exact cool)

/-! ### A restart (R16) -/

/-- A halt ends a session in progress (R122). -/
theorem haltNode_phase (r : HaltReason) (s : State) : inSession (haltNode r s).level.phase = false := by
  have cleared (u : State) : inSession (clearSession u).level.phase = false := by
    unfold clearSession
    split
    · rfl
    · rename_i out
      simpa using out
  unfold haltNode finishOrder
  split <;> simp [cleared]

theorem endPlan_orders (o : PlanOutcome) (s : State) :
    (endPlan o s).orders.cursor = none ∧ (endPlan o s).orders.cur = s.orders.cur
      ∧ (endPlan o s).orders.hold = s.orders.hold := by
  unfold endPlan
  split
  · simp [*]
  · dsimp only
    (repeat' split) <;> simp

theorem blankOrders_channels (s : State) :
    (blankOrders s).chA = s.chA.blankOrder ∧ (blankOrders s).chB = s.chB.blankOrder := by
  simp [blankOrders]

theorem Channel.idled_act {c : Channel} (h : c.carries = false) : c.idled.act = .idle := by
  simp only [Channel.carries, Bool.or_eq_false_iff, decide_eq_false_iff_not] at h
  unfold Channel.idled
  cases hc : c.act <;> simp_all

/-- With no session in progress the level unit has only its dwell to test (R120). -/
theorem evalLevel_resting {s : State} (h : Resting s) (out : inSession s.level.phase = false) : Resting (evalLevel s) := by
  have dwell : Resting (updateDwell s) :=
    h.of_frame (by simp) (by simp) (by simp) (by simp) (by simp) (by simp [updateDwell])
  unfold evalLevel
  split <;> simp_all [inSession]

/-- The emptying of the table leaves a node out of a session resting (R43). -/
theorem emptyTable_resting {s : State} (h : Resting s) (out : inSession s.level.phase = false) :
    Resting (emptyTable s) := by
  have cleared : Resting (takeAdmission (clearPeers s)) := h.of_frame (by simp [clearPeers]) (by simp [clearPeers])
    (by simp [clearPeers]) (by simp [clearPeers]) (by simp [clearPeers]) (by simp [clearPeers])
  have medians : Resting (updateConsensus (takeAdmission (clearPeers s))) := cleared.of_frame rfl rfl rfl rfl rfl rfl
  unfold emptyTable reportJacks
  split
  · exact evalLevel_resting medians (by simpa [clearPeers, updateConsensus] using out)
  · exact cleared

theorem emptyTable_peers (s : State) : (emptyTable s).peers = [] := by
  simp [emptyTable, clearPeers]

/-- A node halted for a restart, its channels idled and the faults of R156 dropped. -/
def idledNode (s : State) : State :=
  levelTimers (blankOrders (dropFaults restartDrops
    (((endPlan .abandoned (haltNode .restart s)).onChA Channel.idled).onChB Channel.idled)))

/-- The node as an accepted restart hands it to LISTEN (R16). -/
def restartedNode (s : State) : State :=
  ((((releaseDrive (emptyTable (endQuiet (emptyPresses (idledNode s))))).onWatch fun _ => .fresh).onNode fun n =>
    { n with wokeBy := .none })).onSupply fun u => { u with low := none }

theorem acceptRestart_eq (inp : Inputs) (s : State) :
    acceptRestart inp s = conclude (enterListen .none inp (restartedNode s)) := rfl

theorem idledNode_resting (s : State) : Resting (endQuiet (emptyPresses (idledNode s))) := by
  obtain ⟨cur, hold, claim⟩ := haltNode_ends .restart s
  obtain ⟨cursor, sameCur, sameHold⟩ := endPlan_orders .abandoned (haltNode .restart s)
  obtain ⟨carriesA, carriesB⟩ := haltNode_quiet .restart s
  have out := haltNode_phase .restart s
  exact {
    actA := by simp [endQuiet, emptyPresses, idledNode, blankOrders_channels, Channel.idled_act carriesA]
    actB := by simp [endQuiet, emptyPresses, idledNode, blankOrders_channels, Channel.idled_act carriesB]
    cur := by simp [endQuiet, emptyPresses, idledNode, sameCur, cur]
    hold := by simp [endQuiet, emptyPresses, idledNode, sameHold, hold]
    cursor := by simp [endQuiet, emptyPresses, idledNode, cursor]
    presses := by simp [endQuiet, emptyPresses]
    quiet := by simp [endQuiet]
    claim := by simp [endQuiet, emptyPresses, idledNode, claim]
    faults := fun f hf => by
      have kept : f ∈ (idledNode s).stop.faults := by simpa [emptyPresses] using (List.mem_filter.1 hf).1
      have drops : (idledNode s).stop.faults = s.stop.faults.filter fun g => !restartDrops g := by
        simp [idledNode, dropFaults]
      rw [drops] at kept
      intro dup
      simpa [restartDrops, dup] using (List.mem_filter.1 kept).2
    phase := fun foot => by
      have : (haltNode .restart s).level.phase = .footing := by
        simpa [endQuiet, emptyPresses, idledNode, levelTimers] using foot
      simp [this, inSession] at out }

theorem restartedNode_resting (s : State) : Resting (restartedNode s) := by
  have out : inSession (endQuiet (emptyPresses (idledNode s))).level.phase = false := by
    simpa [endQuiet, emptyPresses, idledNode, levelTimers] using haltNode_phase .restart s
  exact (emptyTable_resting (idledNode_resting s) out).of_frame rfl rfl rfl rfl rfl rfl

/-- A restart keeps which node it is, its lockout cause and what is kept of it, and empties the table. -/
theorem restartedNode_keeps (s : State) :
    (restartedNode s).node = { s.node with wokeBy := .none } ∧ (restartedNode s).peers = []
      ∧ (restartedNode s).kept = s.kept := by
  refine ⟨?_, ?_, ?_⟩
  · simp [restartedNode, releaseDrive, endQuiet, emptyPresses, idledNode]
  · simp [restartedNode, releaseDrive, emptyTable_peers]
  · simp [restartedNode, endQuiet, emptyPresses, idledNode, blankOrders, levelTimers]

/-- An accepted restart on a driver that does not overheat leaves the node in LISTEN, with the core that the entry left. -/
theorem acceptRestart_core {inp : Inputs} (cool : overheats inp = false) (s : State) :
    (acceptRestart inp s).core = (enterListen .none inp (restartedNode s)).core := by
  obtain ⟨node, -⟩ := enterListen_cool cool .none (restartedNode s)
  have rests := enterListen_resting (restartedNode_resting s) cool .none
  rw [acceptRestart_eq, conclude, node, if_neg (by simp)]
  exact settle_core rests.atRest

/-- What an accepted restart leaves of node, protection set and beacons, and that the node rests in LISTEN with an empty
table (R16, R43, R67). -/
theorem acceptRestart_listens {inp : Inputs} (cool : overheats inp = false) (s : State) :
    Resting (acceptRestart inp s) ∧ (acceptRestart inp s).peers = []
      ∧ (acceptRestart inp s).node
        = { s.node with mode := .listen, listen := some 0, extended := false, idleFailedA := false, idleFailedB := false,
                        wokeBy := .none }
      ∧ (acceptRestart inp s).road.inhibitA = s.road.inhibitA ∧ (acceptRestart inp s).road.inhibitB = s.road.inhibitB
      ∧ (acceptRestart inp s).road.lock = s.road.lock ∧ (acceptRestart inp s).wind.holdOff = s.wind.holdOff
      ∧ (acceptRestart inp s).bus.wakeCause = .none ∧ (acceptRestart inp s).bus.beaconTimer = some 0 := by
  obtain ⟨same, peers, kept⟩ := restartedNode_keeps s
  have core := acceptRestart_core cool s
  have rests := enterListen_resting (restartedNode_resting s) cool .none
  obtain ⟨-, -, peers', -⟩ := enterListen_frame .none inp (restartedNode s)
  have listens := enterListen_cool cool .none (restartedNode s)
  generalize acceptRestart inp s = t at core ⊢
  generalize enterListen .none inp (restartedNode s) = e at core rests peers' listens
  generalize restartedNode s = p at same peers kept peers' listens
  obtain ⟨-, -, -, inhibitA, inhibitB, lock, wind⟩ := aside_fields (congrArg Kept.aside kept)
  injection wind with _ _ _ _ _ holdOff
  obtain ⟨node, wake, timer, inhibitA', inhibitB', lock', holdOff'⟩ := listens
  obtain ⟨nodeT, -, -, -, busT, peersT, ordersT, levelT, windT, stopT, roadT, hA, hB, supplyT⟩ := State.core_fields core
  injection supplyT with claimT
  refine ⟨rests.of_frame (Channel.core_fields hA).1 (Channel.core_fields hB).1 ordersT claimT (by rw [stopT])
      (by rw [levelT]),
    peersT.trans (peers'.trans peers), ?_, ?_, ?_, ?_, ?_, ?_, ?_⟩
  · rw [nodeT, node, same]
  · rw [roadT, inhibitA', inhibitA]
  · rw [roadT, inhibitB', inhibitB]
  · rw [roadT, lock', lock]
  · rw [windT, holdOff', holdOff]
  · rw [busT, wake]
  · rw [busT, timer]

end Sys2Proof.Machine

open Sys2Proof Sys2Proof.Machine

/-- Settles O22 by `acceptRestart_listens`. -/
theorem restartBeginsListen : Obligations.RestartBeginsListen := by
  intro source target inp s delivered active named cool
  have taken : exec (.restartRequest source target inp) s = .next (acceptRestart inp (receivedWhole s)) := by
    have opens : exec (.restartRequest source target inp) s = .next (takeRestart source target inp (receivedWhole s)) :=
      congrArg _ (receive_delivers delivered)
    have named' : byteNames target (receivedWhole s).node.station = true := by simpa using named
    have active' : (receivedWhole s).active = true := by simpa [State.active] using active
    rw [opens, takeRestart, named', active', Bool.not_true, if_neg Bool.false_ne_true, if_pos rfl]
  obtain ⟨store, cal, -⟩ := acceptRestart_frame inp (receivedWhole s)
  obtain ⟨rests, peers, node, inhibitA, inhibitB, lock, holdOff, wake, timer⟩ :=
    acceptRestart_listens cool (receivedWhole s)
  generalize acceptRestart inp (receivedWhole s) = t
    at taken store cal rests peers node inhibitA inhibitB lock holdOff wake timer
  have idle : ∀ ch, (t.chan ch).act = .idle
    | .a => rests.actA
    | .b => rests.actB
  refine ⟨t, taken, by rw [node], by rw [node], fun ch _ => idle ch, rests.claim, rests.hold, rests.cursor, rests.presses,
    rests.cur, rests.quiet, peers, ⟨by simpa using store, by simpa using cal, by simp [node], by simp [node]⟩,
    by simpa using inhibitA, by simpa using inhibitB, by simpa using lock, by simpa using holdOff, by simp [node],
    by simp [node], wake, timer, rests.faults⟩

end

section
/-! SUPPORT. Places under the engines (R70, R74; log 62), and the entry to RUN (R13): a channel's place is kept, or is that
of a switch that reads closed where its order ends. -/

namespace Sys2Proof.Machine

/-! ### Places that are kept, or come to stand at a closed switch -/

/-- Role and record stay, and every channel's place is kept or is that of a switch that reads closed. -/
structure Drifts (s t : State) : Prop where
  role : t.node.role = s.node.role
  cal : t.cal = s.cal
  places : s.samePlacesOrEnds t

theorem Drifts.place {s t : State} (h : Drifts s t) : ∀ ch, s.samePlaceOrEnd t ch
  | .a => h.places.1
  | .b => h.places.2

/-- A channel whose stand is kept keeps its place. -/
theorem samePlaceOrEnd_of_stand {s t : State} {ch : ChanId} (h : (t.chan ch).stand = (s.chan ch).stand) :
    s.samePlaceOrEnd t ch := by
  simp only [Channel.stand, Prod.mk.injEq] at h
  obtain ⟨count, cls, home, out⟩ := h
  exact ⟨home, out, .inl ⟨count, cls⟩⟩

/-- What keeps the places drifts. -/
theorem Drifts.of_kept {s t : State} (h : t.kept = s.kept) (node : t.node = s.node) (cal : t.cal = s.cal) : Drifts s t where
  role := by rw [node]
  cal := cal
  places := ⟨samePlaceOrEnd_of_stand (stand_of_kept h .a), samePlaceOrEnd_of_stand (stand_of_kept h .b)⟩

/-- Whether a switch counts as closed depends on the role and the levels alone. -/
theorem reads_congr {s t : State} {ch : ChanId} (role : t.node.role = s.node.role)
    (home : (t.chan ch).homeClosed = (s.chan ch).homeClosed) (out : (t.chan ch).outClosed = (s.chan ch).outClosed) :
    t.homeReads ch = s.homeReads ch ∧ t.outReads ch = s.outReads ch := by
  simp only [State.homeReads, State.outReads, State.isJack, role, home, out, and_self]

theorem Drifts.trans {s t u : State} (h : Drifts s t) (h' : Drifts t u) : Drifts s u := by
  have place (ch : ChanId) : s.samePlaceOrEnd u ch := by
    obtain ⟨home, out, first⟩ := h.place ch
    obtain ⟨home', out', second⟩ := h'.place ch
    obtain ⟨homeReads, outReads⟩ := reads_congr h.role home out
    refine ⟨home'.trans home, out'.trans out, ?_⟩
    rcases second with ⟨count, cls⟩ | ends
    · rw [State.atSwitch, count, cls]
      exact first
    · rw [State.atSwitch, homeReads, outReads, h.cal] at ends
      exact .inr ends
  exact ⟨h'.role.trans h.role, h'.cal.trans h.cal, place .a, place .b⟩

/-! ### The engines -/

/-- A channel placed at a count has the count's class, and its partner stays where it is. -/
theorem placeChan_chan (ch : ChanId) (n : Nat) (s : State) :
    ((placeChan ch n s).chan ch).stand
        = (n, classOfCount n (s.cal.chan ch).pMax, (s.chan ch).homeClosed, (s.chan ch).outClosed)
      ∧ ((placeChan ch n s).chan ch.other).stand = (s.chan ch.other).stand := by
  unfold placeChan
  dsimp only
  cases ch <;> split <;> simp [Channel.stand, Channel.place, ChanId.other, updateAlarm, dropKind, dropFaults]

/-- A channel placed where a closed switch puts it has come to stand there. -/
theorem placeChan_drifts {ch : ChanId} {n : Nat} {s : State}
    (h : s.homeReads ch = true ∧ n = 0 ∨ s.outReads ch = true ∧ n = (s.cal.chan ch).pMax) :
    Drifts s (placeChan ch n s) := by
  obtain ⟨own, partner⟩ := placeChan_chan ch n s
  have there : s.samePlaceOrEnd (placeChan ch n s) ch := by
    simp only [Channel.stand, Prod.mk.injEq] at own
    obtain ⟨count, cls, home, out⟩ := own
    refine ⟨home, out, .inr ?_⟩
    rcases h with ⟨closed, rfl⟩ | ⟨closed, rfl⟩
    · exact .inl ⟨closed, count, cls⟩
    · exact .inr ⟨closed, count, cls⟩
  have stays := samePlaceOrEnd_of_stand partner
  refine ⟨by simp, by simp, ?_⟩
  cases ch
  · exact ⟨there, stays⟩
  · exact ⟨stays, there⟩

theorem tryDrive_drifts (ch : ChanId) (s : State) : Drifts s (tryDrive ch s) := by
  have refl : Drifts s s := .of_kept rfl rfl rfl
  have travels (t : State) : Drifts t (endOfTravel ch t) := .of_kept (by simp) (by simp) (by simp)
  have drives (dir : Dir) : Drifts s (s.onChan ch (Channel.drive dir)) :=
    .of_kept (kept_onChan fun _ => rfl) (by simp) (by simp)
  have lifts (t : State) : Drifts t (t.onLevel fun l => { l with contact := false }) := .of_kept rfl rfl rfl
  unfold tryDrive
  dsimp only
  split
  · exact refl
  · split
    · exact refl
    · split
      · rename_i closed
        have home : Drifts s (snapHome ch s) := by
          unfold snapHome
          dsimp only
          split
          · exact (placeChan_drifts (.inl ⟨closed, rfl⟩)).trans (lifts _)
          · exact placeChan_drifts (.inl ⟨closed, rfl⟩)
        exact home.trans (travels _)
      · split
        · exact (drives .retract).trans (lifts _)
        · exact drives .retract
    · split
      · rename_i closed
        exact (placeChan_drifts (.inr ⟨closed, rfl⟩)).trans (travels _)
      · split
        · exact .of_kept (by simp) (by simp) (by simp)
        · exact drives .extend

theorem engage_drifts (s : State) : Drifts s (engage s) := by
  have yields : Drifts s (yieldAll s) := .of_kept (by simp) (by simp) (by simp)
  have ends (u t : State) : Drifts t (beginSteps (afterDrive u t)) := .of_kept (by simp) (by simp) (by simp)
  have drives := yields.trans (tryDrive_drifts .a _)
  unfold engage
  dsimp only
  split
  · exact (drives.trans (tryDrive_drifts .b _)).trans (ends _ _)
  · exact drives.trans (ends _ _)

theorem runEngines_drifts (s : State) : Drifts s (runEngines s) := by
  have waits : Drifts s (updateWaits (squareTest s)) := .of_kept (by simp) (by simp) (by simp)
  have rest (t : State) : Drifts t (lowUpdate (rackUpdate (recompose t))) := .of_kept (by simp) (by simp) (by simp)
  exact (waits.trans (engage_drifts _)).trans (rest _)

theorem settle_drifts (s : State) : Drifts s (settle s) := by
  unfold settle
  split
  · exact (runEngines_drifts s).trans (.of_kept (by simp) (by simp) (by simp))
  · exact .of_kept rfl rfl rfl

theorem retest_drifts (s : State) : Drifts s (retest s) := by
  unfold retest
  split
  · exact Drifts.trans (.of_kept (by simp) (by simp) (by simp)) (settle_drifts (tryPart s))
  · exact .of_kept rfl rfl rfl

theorem planLoop_drifts (n : Nat) (s : State) : Drifts s (planLoop n s) := by
  induction n generalizing s with
  | zero => exact .of_kept rfl rfl rfl
  | succ n ih =>
    have fails : Drifts (retest s) (stepFail (retest s)) := .of_kept (by simp) (by simp) (by simp)
    have advances : Drifts (retest s) (advance (retest s)) := .of_kept (by simp) (by simp) (by simp)
    unfold planLoop
    dsimp only
    split
    · exact (retest_drifts s).trans (fails.trans ((settle_drifts _).trans (ih _)))
    · split
      · exact (retest_drifts s).trans (advances.trans ((settle_drifts _).trans (ih _)))
      · exact retest_drifts s

/-! ### The entry to RUN -/

/-- The node in RUN with its idle count begun. -/
def running (s : State) : State :=
  (s.onNode fun n => { n with mode := .run, listen := none, extended := false, wokeBy := .none }).onOrders fun u =>
    { u with idle := 0, idleReached := false }

/-- The node before what every change is followed by: pair fault, wind retract, road stow and trim dwell looked at (R13). -/
def enteringRun (s : State) : State :=
  trimAtRun s.node.wokeBy (stowAtRun (windTest (pairAtRun (running s))))

/-- An entry to RUN, without the idle test: an idle time just begun has not been reached. -/
theorem enterRun_eq (s : State) : enterRun s = planLoop planFuel (settle (enteringRun s)) := by
  have opens : enterRun s = conclude (enteringRun s) := rfl
  have run : (enteringRun s).node.mode = .run := by simp [enteringRun, running]
  have aside : (planLoop planFuel (settle (enteringRun s))).kept.aside = (running s).kept.aside := by
    simp [enteringRun]
  obtain ⟨-, -, reached, -⟩ := aside_fields aside
  have fresh : (planLoop planFuel (settle (enteringRun s))).orders.idleReached = false := reached
  rw [opens, conclude, if_pos run, idleTest, fresh]
  rfl

/-- An entry to RUN leaves the node in RUN, its idle count at 0, and every place as it was or at a closed switch. -/
theorem enterRun_runs (s : State) :
    (enterRun s).node = { s.node with mode := .run, listen := none, extended := false, wokeBy := .none }
      ∧ (enterRun s).orders.idle = 0 ∧ s.samePlacesOrEnds (enterRun s) := by
  have node : (enteringRun s).node = { s.node with mode := .run, listen := none, extended := false, wokeBy := .none } := by
    simp [enteringRun, running]
  have kept : (enteringRun s).kept = (running s).kept := by simp [enteringRun]
  have begins : Drifts s (enteringRun s) :=
    { role := by rw [node]
      cal := by simp [enteringRun, running]
      places := ⟨samePlaceOrEnd_of_stand (stand_of_kept kept .a), samePlaceOrEnd_of_stand (stand_of_kept kept .b)⟩ }
  have aside : (enterRun s).kept.aside = (running s).kept.aside := by rw [enterRun_eq]; simp [enteringRun]
  obtain ⟨-, idle, -⟩ := aside_fields aside
  have drifts := begins.trans ((settle_drifts _).trans (planLoop_drifts planFuel _))
  rw [← enterRun_eq] at drifts
  exact ⟨by rw [enterRun_eq]; simp [node], idle, drifts.places⟩

/-- The record outlives an entry to RUN. -/
theorem enterRun_record (s : State) : s.sameRecord (enterRun s) := by
  obtain ⟨node, -⟩ := enterRun_runs s
  exact ⟨by simp, by simp, by rw [node], by rw [node]⟩

/-! ### A supply sense reading in LISTEN -/

/-- The node once a supply sense reading is taken, before it may enter RUN (R11, R98). -/
def supplyRead (mv : Nat) (s : State) : State :=
  conclude (passArisen s.inp.isns (·.kind = .supplyLow) (readDroop (s.onInp fun i => { i with vs := mv })))

/-- Outside RUN a reading leaves node, record and store. -/
theorem supplyRead_frame {s : State} (h : s.node.mode = .listen) (mv : Nat) :
    (supplyRead mv s).node = s.node ∧ (supplyRead mv s).cal = s.cal ∧ (supplyRead mv s).store = s.store := by
  have node : (passArisen s.inp.isns (·.kind = .supplyLow) (readDroop (s.onInp fun i => { i with vs := mv }))).node
      = s.node := rfl
  refine ⟨?_, by simp [supplyRead], by simp [supplyRead]⟩
  rw [supplyRead, conclude, node, h, if_neg (by decide)]
  simp

/-- An extended LISTEN looks at the reading against V_droop (R11). -/
theorem execSupplySenseReading_extended {s : State} (h : s.node.mode = .listen) (he : s.node.extended = true) (mv : Nat) :
    exec (.supplySenseReading mv) s
      = .next (if s.cal.vDroop ≤ mv then enterRun (supplyRead mv s) else supplyRead mv s) := by
  obtain ⟨node, cal, -⟩ := supplyRead_frame h mv
  have active : s.active = true := active_iff.2 (.inl h)
  have opens : exec (.supplySenseReading mv) s = .next (if (supplyRead mv s).node.mode = .listen
      && (supplyRead mv s).node.extended && (supplyRead mv s).cal.vDroop ≤ mv then enterRun (supplyRead mv s)
      else supplyRead mv s) := if_pos active
  rw [opens, node, cal, h, he]
  simp

end Sys2Proof.Machine

open Sys2Proof Sys2Proof.Machine

/-- Settles O23 by `enterRun_runs`, at the window's end and at a reading that an extended LISTEN waits for. -/
theorem listenEndsInRunOrExtends : Obligations.ListenEndsInRunOrExtends := by
  refine ⟨fun s listen window high => ?_, fun s listen window low => ?_, fun mv s listen extended => ?_⟩
  · have runs : exec .listenWindowEnd s = .next (enterRun s) := by
      simp [exec, execListenWindowEnd, listen, window, high]
    obtain ⟨node, idle, places⟩ := enterRun_runs s
    exact ⟨_, runs, by rw [node], by rw [node], idle, enterRun_record s, places, by simp⟩
  · have below : ¬ s.cal.vFloor ≤ s.inp.vs := by omega
    have ends : (s.node.mode = .listen && s.node.listen.isSome) = true := by simp [listen, window]
    exact (if_pos ends).trans (congrArg _ (if_neg below))
  · obtain ⟨node, cal, store⟩ := supplyRead_frame listen mv
    refine ⟨_, execSupplySenseReading_extended listen extended mv, ?_⟩
    split
    · rename_i high
      obtain ⟨runs, -⟩ := enterRun_runs (supplyRead mv s)
      obtain ⟨store', cal', role, station⟩ := enterRun_record (supplyRead mv s)
      exact ⟨by simp [runs, high], by simp [runs, high], store'.trans store, cal'.trans cal, by rw [role, node],
        by rw [station, node]⟩
    · rename_i low
      exact ⟨by simp [node, listen, low], by simp [node, listen, Nat.lt_of_not_le low], store, cal, by rw [node],
        by rw [node]⟩
end

section
/-! SUPPORT. A beacon's contents and the activity they show (R36, R126). -/

namespace Sys2Proof.Machine

/-- The peer activity follows the contents that arrived, whatever the entry was (R36). -/
theorem arrival_act {b : Beacon} {body : BeaconBody} (h : b.body = body) (old : Option Peer) (st : Nat) :
    (arrival old st b).act = body.activity := congrArg BeaconBody.activity h

/-- A channel's position reads 0 while it is UNKNOWN (R73). -/
theorem perMille_eq (c : Channel) (pMax : Nat) :
    perMille c pMax = if c.cls = .unknown then 0 else 1000 * c.count / pMax := by
  simp [perMille, Channel.known]

/-- The rack error shown reads 0 while either ram is UNKNOWN (R126). -/
theorem State.rackShown_eq (s : State) :
    s.rackShown = if s.chA.cls = .unknown ∨ s.chB.cls = .unknown then 0
      else max (-127) (min 127 ((s.chA.count : Int) - (s.chB.count : Int))) := by
  unfold State.rackShown State.rackError
  split
  · rename_i known
    have both : ¬ (s.chA.cls = .unknown ∨ s.chB.cls = .unknown) := by
      simpa [State.bothKnown, Channel.known] using known
    rw [if_neg both]
  · rename_i unknown
    have one : s.chA.cls = .unknown ∨ s.chB.cls = .unknown := Decidable.by_contra fun neither => unknown <| by
      obtain ⟨knownA, knownB⟩ := not_or.1 neither
      simp only [State.bothKnown, Channel.known, knownA, knownB, ne_eq, not_false_eq_true, decide_true, Bool.and_self]
    rw [if_pos one]

end Sys2Proof.Machine

open Sys2Proof Sys2Proof.Machine

/-- Settles O27: the entry shows what the contents say (`arrival_act`), and the room's fields are composed with 0 for what is
UNKNOWN (`perMille_eq`, `State.rackShown_eq`). -/
theorem peerActivityIsDerived : Obligations.PeerActivityIsDerived := by
  refine ⟨fun old station b _ _ _ _ _ _ _ _ _ _ body => arrival_act body old station,
    fun old station b _ _ _ _ _ _ body => arrival_act body old station,
    fun old station b x y cls posA posB rack body => ?_, fun s slide => ?_⟩
  · have pair : (arrival old station b).act = pairActivity x y := arrival_act body old station
    rw [pair, pairActivity]
    refine ⟨fun drives => if_pos drives, fun rest waits => ?_, fun rest paused => ?_, fun rest faulted => ?_,
      fun rest halted => ?_, fun idleX idleY => by simp [idleX, idleY]⟩
    · simp [rest, waits]
    · simp only [List.forall_mem_cons] at rest
      simp [rest, paused]
    · simp only [List.forall_mem_cons] at rest
      simp [rest, faulted]
    · simp only [List.forall_mem_cons] at rest
      simp [rest, halted]
  · have opens : s.beacon.body = .slide s.chA.act s.chB.act s.nodeClass (perMille s.chA s.cal.chA.pMax)
        (perMille s.chB s.cal.chB.pMax) s.rackShown := by
      simp only [State.beacon, State.beaconBody, slide]
    have room : s.isSlide = true := by simp [State.isSlide, slide]
    rw [opens, State.nodeClass, if_pos room, perMille_eq, perMille_eq, State.rackShown_eq]
end

section
/-! SUPPORT. What the reports of the peer table leave alone (R42), and the entries it changes (R35, R37, R39). -/

namespace Sys2Proof.Machine

/-! ### What a report leaves -/

/-- Store, record, role, station and pins stay, and every channel's place is kept or is that of a closed switch. -/
structure Outlasts (s t : State) : Prop where
  drifts : Drifts s t
  store : t.store = s.store
  station : t.node.station = s.node.station
  inp : t.inp = s.inp

theorem Outlasts.trans {s t u : State} (h : Outlasts s t) (h' : Outlasts t u) : Outlasts s u where
  drifts := h.drifts.trans h'.drifts
  store := h'.store.trans h.store
  station := h'.station.trans h.station
  inp := h'.inp.trans h.inp

theorem Outlasts.record {s t : State} (h : Outlasts s t) : s.sameRecord t :=
  ⟨h.store, h.drifts.cal, h.drifts.role, h.station⟩

/-- An operation that leaves node, record, store and pins, and keeps the places. -/
theorem Outlasts.of_kept {s t : State} (kept : t.kept = s.kept) (node : t.node = s.node) (cal : t.cal = s.cal)
    (store : t.store = s.store) (inp : t.inp = s.inp) : Outlasts s t where
  drifts := .of_kept kept node cal
  store := store
  station := by rw [node]
  inp := inp

/-- A frame received whole. -/
theorem receivedWhole_outlasts (s : State) : Outlasts s (receivedWhole s) where
  drifts := { role := by simp, cal := by simp, places := ⟨samePlaceOrEnd_of_stand rfl, samePlaceOrEnd_of_stand rfl⟩ }
  store := by simp
  station := by simp
  inp := by simp

/-- An entry to WATCH changes the mode and closes the coast windows. -/
theorem enterWatch_outlasts (s : State) : Outlasts s (enterWatch s) := by
  obtain ⟨node, -, -, chA, chB⟩ := enterWatch_keeps s
  have standA : ((enterWatch s).chan .a).stand = (s.chan .a).stand := (congrArg Channel.stand chA).trans rfl
  have standB : ((enterWatch s).chan .b).stand = (s.chan .b).stand := (congrArg Channel.stand chB).trans rfl
  exact
    { drifts := ⟨by rw [node], by simp, samePlaceOrEnd_of_stand standA, samePlaceOrEnd_of_stand standB⟩
      store := by simp
      station := by rw [node]
      inp := by simp }

theorem idleTest_outlasts (s : State) : Outlasts s (idleTest s) := by
  unfold idleTest
  split
  · exact enterWatch_outlasts s
  · exact .of_kept rfl rfl rfl rfl rfl

/-- What every change is followed by. -/
theorem conclude_outlasts (s : State) : Outlasts s (conclude s) := by
  have settles : Outlasts s (settle s) := ⟨settle_drifts s, by simp, by simp, by simp⟩
  have plans (t : State) : Outlasts t (planLoop planFuel t) := ⟨planLoop_drifts planFuel t, by simp, by simp, by simp⟩
  unfold conclude
  split
  · exact (settles.trans (plans _)).trans (idleTest_outlasts _)
  · exact settles

theorem reportOthers_kept (s : State) : (reportOthers s).kept = s.kept := by
  unfold reportOthers
  split <;> simp

/-- A report at a station. -/
theorem peerReport_outlasts (station : Nat) (s : State) : Outlasts s (peerReport station s) := by
  unfold peerReport
  dsimp only
  refine Outlasts.trans ?_ (conclude_outlasts _)
  split
  · exact .of_kept (by simp) (by simp) (by simp) (by simp) (by simp)
  · exact .of_kept (by simp [reportOthers_kept]) (by simp) (by simp) (by simp) (by simp)

/-- A report of a claim stored, removed or lapsed. -/
theorem drawReport_outlasts (s : State) : Outlasts s (drawReport s) :=
  have reports : Outlasts s (heldBackTest (reportOthers (takeAdmission s))) :=
    .of_kept (by simp [reportOthers_kept]) (by simp) (by simp) (by simp) (by simp)
  reports.trans (conclude_outlasts _)

/-! ### Arrivals (R35) -/

theorem beaconFails_outlasts (before : Option (Nat × Nat)) (p : Peer) (s : State) :
    Outlasts s (beaconFails before p s) := by
  unfold beaconFails
  split
  · have fails : Outlasts s (stepFail s) := .of_kept (by simp) (by simp) (by simp) (by simp) (by simp)
    exact fails.trans (conclude_outlasts _)
  · exact .of_kept rfl rfl rfl rfl rfl

/-- A beacon that passed the tests is put in its station's place, and the node outlasts its report. -/
theorem beaconArrives_stored (source : Nat) (b : Beacon) (s : State) :
    (beaconArrives source b s).peers = putPeer s.peers (arrival (findPeer s.peers source) source b)
      ∧ Outlasts s (beaconArrives source b s) := by
  have counts (p : Peer) (t : State) : Outlasts t (countPass p t) := by
    unfold countPass
    split <;> exact .of_kept rfl rfl rfl rfl rfl
  have applies : Outlasts s (applyBeacon source b s) := .of_kept rfl rfl rfl rfl rfl
  refine ⟨by simp [beaconArrives, applyBeacon], ?_⟩
  exact ((applies.trans (counts _ _)).trans (peerReport_outlasts source _)).trans (beaconFails_outlasts _ _ _)

/-! ### Entries changed in place (R37, R39) -/

/-- A station's own entry after it is changed in place. -/
theorem findPeer_mapPeer (st : Nat) (f : Peer → Peer) :
    ∀ l : List Peer, findPeer (mapPeer st f l) st = (findPeer l st).map fun p => { f p with station := p.station }
  | [] => rfl
  | q :: rest => by
    have ih := findPeer_mapPeer st f rest
    by_cases own : q.station = st
    · simp [findPeer, mapPeer, own]
    · simpa [findPeer, mapPeer, own] using ih

/-- Every other station's entry is as before. -/
theorem findPeer_mapPeer_ne {st other : Nat} (h : other ≠ st) (f : Peer → Peer) :
    ∀ l : List Peer, findPeer (mapPeer st f l) other = findPeer l other
  | [] => rfl
  | q :: rest => by
    have ih := findPeer_mapPeer_ne h f rest
    by_cases own : q.station = st
    · simpa [findPeer, mapPeer, own, Ne.symm h] using ih
    · by_cases named : q.station = other
      · simp [findPeer, mapPeer, named, h]
      · simpa [findPeer, mapPeer, own, named] using ih

/-- What a statement says of a command that changes one entry in place and is reported. -/
theorem entry_changed {s t : State} {st : Nat} {p : Peer} {f : Peer → Peer} (found : findPeer s.peers st = some p)
    (peers : t.peers = mapPeer st f s.peers) (outlasts : Outlasts s t) :
    findPeer t.peers st = some { f p with station := p.station }
      ∧ (∀ other : Nat, other ≠ st → findPeer t.peers other = findPeer s.peers other) ∧ s.sameRecord t
      ∧ s.samePlacesOrEnds t := by
  refine ⟨?_, fun other ne => ?_, outlasts.record, outlasts.drifts.places⟩
  · rw [peers, findPeer_mapPeer, found]
    rfl
  · rw [peers, findPeer_mapPeer_ne ne]

/-- A DRAW NOTICE stored or removed (R39). -/
theorem applyDraw_reported (st : Nat) (c : Option ClaimRec) (s : State) :
    (drawReport (applyDraw st c s)).peers = mapPeer st (fun p => { p with claim := c }) s.peers
      ∧ Outlasts s (drawReport (applyDraw st c s)) := by
  have applies : Outlasts s (applyDraw st c s) := .of_kept rfl rfl rfl rfl rfl
  exact ⟨by simp [applyDraw], applies.trans (drawReport_outlasts _)⟩

/-- A standing changed by age (R37). -/
theorem setFresh_reported (st : Nat) (x : Freshness) (s : State) :
    (peerReport st (setFresh st x s)).peers = mapPeer st (fun p => { p with fresh := x }) s.peers
      ∧ Outlasts s (peerReport st (setFresh st x s)) := by
  have sets : Outlasts s (setFresh st x s) := .of_kept rfl rfl rfl rfl rfl
  exact ⟨by simp, sets.trans (peerReport_outlasts st _)⟩

/-! ### Frames that reach the table -/

@[simp] theorem receivedWhole_active (s : State) : (receivedWhole s).active = s.active := rfl

/-- A beacon of another station is decoded, and applied where it passes (R34). -/
theorem exec_postureBeacon {source : Nat} {d : Data8} {s : State} (delivered : s.delivers .postureBeacon source = true)
    (active : s.active = true) (other : source ≠ s.node.station) :
    exec (.postureBeacon source d) s
      = .next ((decodeBeacon source d).elim (receivedWhole s) fun b => beaconArrives source b (receivedWhole s)) := by
  have opens : exec (.postureBeacon source d) s = .next (takeBeacon source d (receivedWhole s)) :=
    congrArg _ (receive_delivers delivered)
  rw [opens, takeBeacon]
  cases decodeBeacon source d <;> simp [active, other]

/-- A DRAW NOTICE that is delivered is the table's to take. -/
theorem exec_drawNotice {source : Nat} {s : State} (delivered : s.delivers .drawNotice source = true) (r : DrawReq) :
    exec (.drawNotice source r) s = .next (takeDraw source r (receivedWhole s)) := congrArg _ (receive_delivers delivered)

/-- A DRAW NOTICE of another station that has an entry is stored where it is defined (R39). -/
theorem takeDraw_stores {source : Nat} {r : DrawReq} {p : Peer} {c : Option ClaimRec} {s : State}
    (active : s.active = true) (other : source ≠ s.node.station) (found : findPeer s.peers source = some p)
    (decoded : decodeDraw r = some c) : takeDraw source r s = drawReport (applyDraw source c s) := by
  simp [takeDraw, active, other, found, decoded]

/-- A DRAW NOTICE of the own station, of one without an entry or with an undefined code changes nothing (R39). -/
theorem takeDraw_drops {source : Nat} {r : DrawReq} {s : State}
    (bars : source = s.node.station ∨ findPeer s.peers source = none ∨ decodeDraw r = none) :
    takeDraw source r s = s := by
  unfold takeDraw
  rcases bars with own | absent | undefined
  · simp [own]
  · simp [absent]
  · simp [undefined]

/-- A defined DRAW NOTICE changes the claim record of its station's entry, and no other entry. -/
theorem exec_drawNotice_stores {source : Nat} {r : DrawReq} {p : Peer} {c : Option ClaimRec} {s : State}
    (delivered : s.delivers .drawNotice source = true) (active : s.active = true) (other : source ≠ s.node.station)
    (found : findPeer s.peers source = some p) (decoded : decodeDraw r = some c) :
    ∃ t, exec (.drawNotice source r) s = .next t ∧ findPeer t.peers source = some { p with claim := c }
      ∧ (∀ st : Nat, st ≠ source → findPeer t.peers st = findPeer s.peers st) ∧ s.sameRecord t
      ∧ s.samePlacesOrEnds t := by
  have table : (receivedWhole s).peers = s.peers := by simp
  obtain ⟨peers, reported⟩ := applyDraw_reported source c (receivedWhole s)
  rw [table] at peers
  refine ⟨_, ?_, entry_changed found peers ((receivedWhole_outlasts s).trans reported)⟩
  rw [exec_drawNotice delivered, takeDraw_stores (by simpa using active) (by simpa using other)
    (by rw [table]; exact found) decoded]

/-! ### Ages past their limit (R37, R40) -/

theorem Peer.turnsStale_iff (p : Peer) : p.turnsStale = true ↔ p.fresh = .fresh ∧ 250 < p.age := by
  simp only [Peer.turnsStale, Bool.and_eq_true, decide_eq_true_eq]
  rfl

theorem Peer.turnsLost_iff (p : Peer) : p.turnsLost = true ↔ p.fresh = .stale ∧ 1000 < p.age := by
  simp only [Peer.turnsLost, Bool.and_eq_true, decide_eq_true_eq]
  rfl

theorem ClaimRec.counts_false_iff (c : ClaimRec) : c.counts = false ↔ 250 < c.age := by
  simp only [ClaimRec.counts, decide_eq_false_iff_not, Nat.not_le]
  rfl

theorem Peer.claimOver_iff (p : Peer) : p.claimOver = true ↔ ∃ c, p.claim = some c ∧ 250 < c.age := by
  simp only [Peer.claimOver, Option.any_eq_true, Bool.not_eq_true', ClaimRec.counts_false_iff]

end Sys2Proof.Machine

open Sys2Proof Sys2Proof.Machine

/-- Settles O28: the arrival is put in its station's place (`beaconArrives_stored`), and no other place is touched. -/
theorem beaconReplacesTheEntry : Obligations.BeaconReplacesTheEntry := by
  refine ⟨fun source d b s delivered active other passes => ?_, fun source d s delivered active other fails => ?_⟩
  · obtain ⟨peers, arrives⟩ := beaconArrives_stored source b (receivedWhole s)
    have outlasts := (receivedWhole_outlasts s).trans arrives
    have table : (receivedWhole s).peers = s.peers := by simp
    rw [table] at peers
    refine ⟨_, by rw [exec_postureBeacon delivered active other, passes, Option.elim_some], ?_, fun st ne => ?_,
      outlasts.record, outlasts.inp, outlasts.drifts.places⟩
    · rw [peers]
      exact findPeer_putPeer (arrival (findPeer s.peers source) source b) s.peers
    · rw [peers]
      exact findPeer_putPeer_ne ne s.peers
  · rw [exec_postureBeacon delivered active other, fails, Option.elim_none]

/-- Settles O30: a DRAW NOTICE and an age that passes its limit change one entry in place (`exec_drawNotice_stores`,
`entry_changed`), a lapse none; a row that finds the age within its limit does not open. -/
theorem claimRecordsAndAges : Obligations.ClaimRecordsAndAges := by
  refine ⟨fun source r p s delivered active other found claims defined => ?_,
    fun source r p s delivered active other found releases defined => ?_, fun source r s delivered bars => ?_,
    fun station p s active found fresh passed => ?_, fun station p s active found stale passed => ?_,
    fun station p c s active found held passed => ?_, fun station p s found => ⟨fun within => ?_, fun within => ?_⟩,
    fun station p s found within => ?_⟩
  · exact exec_drawNotice_stores delivered active other found (by simp [decodeDraw, claims, Nat.not_lt.2 defined])
  · exact exec_drawNotice_stores delivered active other found (by simp [decodeDraw, releases, Nat.not_lt.2 defined])
  · have undecoded (undefined : 1 < r.state.toNat ∨ 3 < r.baseClass.toNat) : decodeDraw r = none := if_pos undefined
    rw [exec_drawNotice delivered, takeDraw_drops (by simpa using bars.imp_right (Or.imp_right undecoded))]
  · obtain ⟨peers, reported⟩ := setFresh_reported station .stale s
    have turns := p.turnsStale_iff.2 ⟨fresh, passed⟩
    have opens : exec (.beaconAgeStale station) s = .next (peerReport station (setFresh station .stale s)) :=
      if_pos (by simp [active, found, turns])
    exact ⟨_, opens, entry_changed found peers reported⟩
  · obtain ⟨peers, reported⟩ := setFresh_reported station .lost s
    have turns := p.turnsLost_iff.2 ⟨stale, passed⟩
    have opens : exec (.beaconAgeLost station) s = .next (peerReport station (setFresh station .lost s)) :=
      if_pos (by simp [active, found, turns])
    exact ⟨_, opens, entry_changed found peers reported⟩
  · have lapses := p.claimOver_iff.2 ⟨c, held, passed⟩
    have opens : exec (.claimLapse station) s = .next (drawReport s) := if_pos (by simp [active, found, lapses])
    have reported := drawReport_outlasts s
    exact ⟨_, opens, by simp, c.counts_false_iff.2 passed, reported.record, reported.drifts.places⟩
  · have stands : ¬ p.turnsStale = true := fun turns => by
      obtain ⟨-, passed⟩ := p.turnsStale_iff.1 turns
      omega
    exact if_neg (by simp [found, stands])
  · have stands : ¬ p.turnsLost = true := fun turns => by
      obtain ⟨-, passed⟩ := p.turnsLost_iff.1 turns
      omega
    exact if_neg (by simp [found, stands])
  · have counts : ¬ p.claimOver = true := fun lapses => by
      obtain ⟨c, held, passed⟩ := p.claimOver_iff.1 lapses
      have young := within c held
      omega
    exact if_neg (by simp [found, counts])
end
